-- ==== Sys2Proof/Word.lean ====
section
/-! DEFINITION. The word types of the block and a pair indexed by the buffer identifiers. -/

namespace Sys2Proof

/-- A command word, and also a response word (rules R81, R89). -/
abbrev Word32 := BitVec 32

/-- A frequency word, `UQ((24-FQ).FQ)` Hz (rule R116). -/
abbrev FreqWord := BitVec 24

/-- A buffer identifier. The spec numbers the one or two output buffers 0 and 1 (rules R6, R38, R60). -/
inductive BufId where
  | b0
  | b1
deriving DecidableEq, Repr

/-- The number of a buffer identifier. -/
def BufId.idx : BufId → Nat
  | .b0 => 0
  | .b1 => 1

/-- One item for each buffer identifier. With `NBUF = 1` only the item of buffer 0 stands for hardware. -/
structure PerBuf (α : Type) where
  b0 : α
  b1 : α
deriving DecidableEq, Repr

/-- The item of one buffer. -/
def PerBuf.get {α : Type} (p : PerBuf α) : BufId → α
  | .b0 => p.b0
  | .b1 => p.b1

/-- The pair with the item of one buffer replaced. -/
def PerBuf.set {α : Type} (p : PerBuf α) (b : BufId) (x : α) : PerBuf α :=
  match b with
  | .b0 => { p with b0 := x }
  | .b1 => { p with b1 := x }

/-- `ceil(log2 n)` for `n >= 1` (the widths of rule R7). -/
def clog2 (n : Nat) : Nat := if n ≤ 1 then 0 else (n - 1).log2 + 1

end Sys2Proof
end

