-- ==== Sys2Proof/Syntax.lean ====
section
/-! DEFINITION. The commands of the block (rule R85, spec/opcode_table.json), and the turns its agents take
(rule R12). -/

namespace Sys2Proof

/-- The sixteen rows of the opcode map (rule R85), one constructor each. An operand has exactly the width its
field has in the command word (rules R81, R82, R84); the fields a format ignores (rule R87) are not kept. -/
inductive Instr where
  /-- NOP, opcode 0x0 (rule R225). -/
  | nop
  /-- VFREQ, opcode 0x1: channel and frequency word (rule R118). -/
  | vfreq (ch : BitVec 4) (freq : FreqWord)
  /-- FXSET, opcode 0x2: `arg[1:0]`, bit 0 tremolo, bit 1 alternate effect (rule R136). -/
  | fxset (flags : BitVec 2)
  /-- START, opcode 0x3 (rule R162). -/
  | start
  /-- STOP, opcode 0x4 (rule R164). -/
  | stop
  /-- POLL, opcode 0x5 (rule R166). -/
  | poll
  /-- MODE, opcode 0x6: `arg[0]`, 1 event model, 0 poll model (rule R168). -/
  | mode (auto : BitVec 1)
  /-- RDSTAT, opcode 0x7 (rule R226). -/
  | rdstat
  /-- CLRERR, opcode 0x8: `arg[2:0]`, a mask of sticky flags (rule R227). -/
  | clrerr (mask : BitVec 3)
  /-- The reserved opcode 0x9 (rules R86, R228). -/
  | reserved9
  /-- The reserved opcode 0xA (rules R86, R228). -/
  | reservedA
  /-- The reserved opcode 0xB (rules R86, R228). -/
  | reservedB
  /-- The reserved opcode 0xC (rules R86, R228). -/
  | reservedC
  /-- The reserved opcode 0xD (rules R86, R228). -/
  | reservedD
  /-- The reserved opcode 0xE (rules R86, R228). -/
  | reservedE
  /-- The reserved opcode 0xF (rules R86, R228). -/
  | reservedF
deriving DecidableEq, Repr

/-- Whose turn it is to step (rule R12). Steps interleave in any order; a list of turns is one interleaving. -/
inductive Turn where
  /-- The host presents a command word with `cmd_valid = 1` (rule R83). -/
  | command (w : Word32)
  /-- The refill engine takes the one of its steps that is enabled, if one is (rule R169, log 3). -/
  | refill
  /-- The playback engine takes SampleTick: the sample period ends (rules R200, R201, log 12). -/
  | sampleTick
  /-- One clock cycle of the pulse-width stage; at the period boundary it takes SampleTick (rule R214, log 12). -/
  | pwmCycle
  /-- A rising clock edge that changes the level of `rst` or holds it at 1 (rule R270, log 11). -/
  | rstEdge (level : Bool)
deriving DecidableEq, Repr, Inhabited

end Sys2Proof
end

