-- ==== Sys2Proof/Config.lean ====
section
/-! DEFINITION. The implementation parameters of one instance of the block (rule R6) as one record of plain
data, the two configurations of the spec, and the values the spec leaves free. -/

namespace Sys2Proof

/-- The tremolo gain `TremGain`, a total function from `0..TMOD-1` to `0..GDEN` (rule R145). Its domain is
finite, so a list holds any such function; the spec's own default is named instead of listed (log 7). -/
inductive GainFn where
  /-- The default of rules R6 and R145: `TremGain(t) = ROM[t >> FW]`. -/
  | romAtPhase
  /-- Entry `t` of the list is `TremGain(t)`. -/
  | table (gain : List Nat)
deriving DecidableEq, Repr

/-- The alternate effect `Reshape`, a total function from `0..PEAK` to the naturals (rule R144), held as
`GainFn` is (log 7). -/
inductive ReshapeFn where
  /-- The default of rules R6 and R144: `Reshape(m) = isqrt(m * PEAK)`. -/
  | isqrtPeak
  /-- Entry `m` of the list is `Reshape(m)`. -/
  | table (shape : List Nat)
deriving DecidableEq, Repr

/-- The parameters of rule R6, under the spec's names in lower case, and the contents of the read-only table
(rules R61, R105). -/
structure Config where
  /-- `NCH`, number of voices. -/
  nch : Nat
  /-- `L`, table length. -/
  l : Nat
  /-- `PEAK`, peak amplitude of the table. -/
  peak : Nat
  /-- `DUTY_MAX`, the largest duty value, MS's countertop. -/
  dutyMax : Nat
  /-- `W`, width in bits of a table sample, a buffer word and `DUTY`. -/
  w : Nat
  /-- `B`, output buffer length in samples. -/
  b : Nat
  /-- `NBUF`, number of output buffers. -/
  nbuf : Nat
  /-- `FS`, sample rate in Hz. -/
  fs : Nat
  /-- `FW`, fraction bits of a phase and of a step. -/
  fw : Nat
  /-- `FQ`, fraction bits of a frequency word. -/
  fq : Nat
  /-- `IDLE_DUTY`, the silence and idle duty value. -/
  idleDuty : Nat
  /-- `SILENCE_LIMIT`, consecutive silent windows that end a run. -/
  silenceLimit : Nat
  /-- `TMOD`, modulus of the tremolo phase. -/
  tmod : Nat
  /-- `TSTEP`, tremolo phase increment per sample. -/
  tstep : Nat
  /-- `GDEN`, denominator of the tremolo gain. -/
  gden : Nat
  /-- `TremGain`. -/
  tremGain : GainFn
  /-- `Reshape`. -/
  reshape : ReshapeFn
  /-- `FX_RESET`, reset value of the two effect flags. -/
  fxReset : BitVec 2
  /-- `REFILL_TICKS_MAX`, rule R282. -/
  refillTicksMax : Nat
  /-- `PWM_POL`, pin level while the counter is below the duty. -/
  pwmPol : Bool
  /-- `ROM:0` to `ROM:L-1` (rules R60, R61, R105). -/
  rom : List Nat
deriving DecidableEq, Repr

/-- `ROM:0` to `ROM:99` of the default table (rule R112). -/
def romDefault0 : List Nat :=
  [500, 506, 513, 519, 525, 531, 538, 544, 550, 556] ++
  [563, 569, 575, 581, 588, 594, 600, 606, 612, 618] ++
  [624, 630, 636, 643, 649, 655, 660, 666, 672, 678] ++
  [684, 690, 696, 701, 707, 713, 719, 724, 730, 735] ++
  [741, 746, 752, 757, 763, 768, 773, 778, 784, 789] ++
  [794, 799, 804, 809, 814, 819, 824, 828, 833, 838] ++
  [842, 847, 851, 856, 860, 864, 869, 873, 877, 881] ++
  [885, 889, 893, 897, 901, 905, 908, 912, 915, 919] ++
  [922, 925, 929, 932, 935, 938, 941, 944, 947, 950] ++
  [952, 955, 958, 960, 963, 965, 967, 969, 971, 974]

/-- `ROM:100` to `ROM:199` of the default table (rule R112). -/
def romDefault1 : List Nat :=
  [976, 977, 979, 981, 983, 984, 986, 987, 989, 990] ++
  [991, 992, 993, 994, 995, 996, 997, 997, 998, 999] ++
  [999, 999, 1000, 1000, 1000, 1000, 1000, 1000, 1000, 999] ++
  [999, 999, 998, 997, 997, 996, 995, 994, 993, 992] ++
  [991, 990, 989, 987, 986, 984, 983, 981, 979, 977] ++
  [976, 974, 971, 969, 967, 965, 963, 960, 958, 955] ++
  [952, 950, 947, 944, 941, 938, 935, 932, 929, 925] ++
  [922, 919, 915, 912, 908, 905, 901, 897, 893, 889] ++
  [885, 881, 877, 873, 869, 864, 860, 856, 851, 847] ++
  [842, 838, 833, 828, 824, 819, 814, 809, 804, 799]

/-- `ROM:200` to `ROM:299` of the default table (rule R112). -/
def romDefault2 : List Nat :=
  [794, 789, 784, 778, 773, 768, 763, 757, 752, 746] ++
  [741, 735, 730, 724, 719, 713, 707, 701, 696, 690] ++
  [684, 678, 672, 666, 660, 655, 649, 643, 636, 630] ++
  [624, 618, 612, 606, 600, 594, 588, 581, 575, 569] ++
  [563, 556, 550, 544, 538, 531, 525, 519, 513, 506] ++
  [500, 494, 487, 481, 475, 469, 462, 456, 450, 444] ++
  [437, 431, 425, 419, 412, 406, 400, 394, 388, 382] ++
  [376, 370, 364, 357, 351, 345, 340, 334, 328, 322] ++
  [316, 310, 304, 299, 293, 287, 281, 276, 270, 265] ++
  [259, 254, 248, 243, 237, 232, 227, 222, 216, 211]

/-- `ROM:300` to `ROM:399` of the default table (rule R112). -/
def romDefault3 : List Nat :=
  [206, 201, 196, 191, 186, 181, 176, 172, 167, 162] ++
  [158, 153, 149, 144, 140, 136, 131, 127, 123, 119] ++
  [115, 111, 107, 103, 99, 95, 92, 88, 85, 81] ++
  [78, 75, 71, 68, 65, 62, 59, 56, 53, 50] ++
  [48, 45, 42, 40, 37, 35, 33, 31, 29, 26] ++
  [24, 23, 21, 19, 17, 16, 14, 13, 11, 10] ++
  [9, 8, 7, 6, 5, 4, 3, 3, 2, 1] ++
  [1, 1, 0, 0, 0, 0, 0, 0, 0, 1] ++
  [1, 1, 2, 3, 3, 4, 5, 6, 7, 8] ++
  [9, 10, 11, 13, 14, 16, 17, 19, 21, 23]

/-- `ROM:400` to `ROM:499` of the default table (rule R112). -/
def romDefault4 : List Nat :=
  [24, 26, 29, 31, 33, 35, 37, 40, 42, 45] ++
  [48, 50, 53, 56, 59, 62, 65, 68, 71, 75] ++
  [78, 81, 85, 88, 92, 95, 99, 103, 107, 111] ++
  [115, 119, 123, 127, 131, 136, 140, 144, 149, 153] ++
  [158, 162, 167, 172, 176, 181, 186, 191, 196, 201] ++
  [206, 211, 216, 222, 227, 232, 237, 243, 248, 254] ++
  [259, 265, 270, 276, 281, 287, 293, 299, 304, 310] ++
  [316, 322, 328, 334, 340, 345, 351, 357, 364, 370] ++
  [376, 382, 388, 394, 400, 406, 412, 419, 425, 431] ++
  [437, 444, 450, 456, 462, 469, 475, 481, 487, 494]

/-- The default table, `L = 500`, `PEAK = 1000` (rule R112). -/
def romDefault : List Nat := romDefault0 ++ romDefault1 ++ romDefault2 ++ romDefault3 ++ romDefault4

/-- The TINY table, `L = 8`, `PEAK = 15` (rule R111). -/
def romTiny : List Nat := [8, 13, 15, 13, 8, 2, 0, 2]

/-- The default column of rule R6. `REFILL_TICKS_MAX` is OPEN there; DESIGN CHOICE (log 6): the largest value
the timing condition of rule R283 admits. -/
def Config.standard : Config where
  nch := 4
  l := 500
  peak := 1000
  dutyMax := 1000
  w := 16
  b := 1024
  nbuf := 2
  fs := 16000
  fw := 16
  fq := 8
  idleDuty := 0
  silenceLimit := 2
  tmod := 32768000
  tstep := 10240
  gden := 1000
  tremGain := .romAtPhase
  reshape := .isqrtPeak
  fxReset := 0
  refillTicksMax := 1024
  pwmPol := true
  rom := romDefault

/-- The TINY column of rule R6, with `REFILL_TICKS_MAX` as in `Config.standard` (log 6). -/
def Config.tiny : Config where
  nch := 2
  l := 8
  peak := 15
  dutyMax := 15
  w := 4
  b := 4
  nbuf := 2
  fs := 16
  fw := 4
  fq := 4
  idleDuty := 0
  silenceLimit := 2
  tmod := 128
  tstep := 16
  gden := 15
  tremGain := .romAtPhase
  reshape := .isqrtPeak
  fxReset := 0
  refillTicksMax := 4
  pwmPol := true
  rom := romTiny

/-! ## Free values

Each is a constant with no body: no proof can see what it is, so a claim about the model holds whatever it
is. -/

/-- What word `i` of `OBUF[b]` holds before the first write after reset number `epoch` (rules R48, R62;
93 U1: any value; log 4). -/
opaque Config.unwrittenWord (epoch b i : Nat) : Nat

/-- Whose turn it is, and with which command word, where the state lists no turn (rules R12, R71; 93 U3: every
order the enabling conditions allow; log 2). -/
opaque Config.freeTurn (n : Nat) : Turn

/-- `rsp_word` while `rsp_valid = 0` (93 U6: any value; log 13). -/
opaque Config.idleRspWord (n : Nat) : Word32

/-- `ev_drained_buf` while `ev_drained = 0` (93 U7: any value; log 13). -/
opaque Config.idleDrainedBuf (n : Nat) : BitVec 1

end Sys2Proof
end

