-- ==== Sys2Proof/WellFormed.lean ====
section
/-! DEFINITION. Which instructions and which configurations are well formed. An instruction's operands have
the widths of their fields by type, so every term of `Instr` is well formed; the checks with content are those of
a configuration, one for each legal range of rule R6. -/

namespace Sys2Proof

/-- Every instruction is well formed: its operand types admit exactly the values its fields admit (rules R81,
R82, R84). -/
def Instr.wellFormed : Instr → Bool
  | .nop => true
  | .vfreq _ _ => true
  | .fxset _ => true
  | .start => true
  | .stop => true
  | .poll => true
  | .mode _ => true
  | .rdstat => true
  | .clrerr _ => true
  | .reserved9 => true
  | .reservedA => true
  | .reservedB => true
  | .reservedC => true
  | .reservedD => true
  | .reservedE => true
  | .reservedF => true

/-- The legal ranges of the counts and lengths of rule R6. -/
def Config.countsOk (c : Config) : Bool :=
  decide (1 ≤ c.nch) && decide (c.nch ≤ 16) && decide (2 ≤ c.l) && decide (1 ≤ c.b) &&
  (decide (c.nbuf = 1) || decide (c.nbuf = 2)) && decide (1 ≤ c.silenceLimit) && decide (c.silenceLimit ≤ 15)

/-- The legal ranges of the amplitudes of rule R6. -/
def Config.amplitudesOk (c : Config) : Bool :=
  decide (1 ≤ c.peak) && decide (c.peak ≤ c.dutyMax) && decide (1 ≤ c.dutyMax) && decide (c.dutyMax < 2 ^ c.w) &&
  decide (c.idleDuty ≤ c.dutyMax)

/-- The legal ranges of the rates and fixed-point formats of rule R6. -/
def Config.ratesOk (c : Config) : Bool :=
  decide (1 ≤ c.fs) && decide (1 ≤ c.fw) && decide (c.fq ≤ 23)

/-- The table words the default `TremGain` reaches on `0..TMOD-1`, for `TMOD >= 1` (rules R6, R145). -/
def Config.gainWords (c : Config) : List Nat := c.rom.take ((c.tmod - 1) / 2 ^ c.fw + 1)

/-- The legal ranges of the effect parameters of rules R6, R144 and R145: `TremGain` is total on `0..TMOD-1`
and at most `GDEN` there; `Reshape` is total on `0..PEAK`. -/
def Config.effectsOk (c : Config) : Bool :=
  decide (1 ≤ c.tmod) && decide (c.tstep < c.tmod) && decide (1 ≤ c.gden) &&
  (match c.tremGain with
    | .romAtPhase => decide (c.tmod ≤ c.l * 2 ^ c.fw) && c.gainWords.all fun g => decide (g ≤ c.gden)
    | .table gain => decide (gain.length = c.tmod) && gain.all fun g => decide (g ≤ c.gden)) &&
  (match c.reshape with
    | .isqrtPeak => true
    | .table shape => decide (shape.length = c.peak + 1))

/-- The facts rule R105 asks to be checked of a table taken as data: its length, the range of rule R102 and the
fixed points of rule R103. -/
def Config.romOk (c : Config) : Bool :=
  decide (c.rom.length = c.l) && (c.rom.all fun v => decide (v ≤ c.peak)) &&
  decide (c.rom[0]? = some ((c.peak + 1) / 2)) &&
  (decide (c.l % 2 ≠ 0) || decide (c.rom[c.l / 2]? = some ((c.peak + 1) / 2))) &&
  (decide (c.l % 4 ≠ 0) ||
    (decide (c.rom[c.l / 4]? = some c.peak) && decide (c.rom[3 * c.l / 4]? = some 0))) &&
  (decide (c.l % 12 ≠ 0) ||
    (decide (c.rom[c.l / 12]? = some ((3 * c.peak + 2) / 4)) &&
      decide (c.rom[5 * c.l / 12]? = some ((3 * c.peak + 2) / 4)) &&
      decide (c.rom[7 * c.l / 12]? = some ((c.peak + 2) / 4)) &&
      decide (c.rom[11 * c.l / 12]? = some ((c.peak + 2) / 4))))

/-- Everything rule R8 asks of a configuration but the timing condition of rule R283 (93 U14: what a
configuration must satisfy to be an instance of the block). -/
def Config.instanceOk (c : Config) : Bool :=
  c.countsOk && c.amplitudesOk && c.ratesOk && c.effectsOk && c.romOk

end Sys2Proof
end

