-- ==== Sys2Proof/Decode.lean ====
section
/-! DEFINITION. The command word, its decoder and its encoder (rules R81 to R88). Decoding is total: every
32-bit word is exactly one row of the opcode map (rule R85), so nothing is rejected here; a reserved word decodes
to its own row, whose meaning refuses it with CMDERR. -/

namespace Sys2Proof

/-- `op = cmd_word[31:28]` (rule R81). -/
def opField (w : Word32) : BitVec 4 := w.extractLsb' 28 4

/-- `ch = cmd_word[27:24]` (rule R81). -/
def chField (w : Word32) : BitVec 4 := w.extractLsb' 24 4

/-- `arg = cmd_word[23:0]` (rule R81). -/
def argField (w : Word32) : BitVec 24 := w.extractLsb' 0 24

/-- The command of a word (rules R83, R85, R87). The last row is opcode 0xF: a 4-bit field leaves no other. -/
def decode (w : Word32) : Instr :=
  match (opField w).toNat with
  | 0 => .nop
  | 1 => .vfreq (chField w) (argField w)
  | 2 => .fxset ((argField w).extractLsb' 0 2)
  | 3 => .start
  | 4 => .stop
  | 5 => .poll
  | 6 => .mode ((argField w).extractLsb' 0 1)
  | 7 => .rdstat
  | 8 => .clrerr ((argField w).extractLsb' 0 3)
  | 9 => .reserved9
  | 10 => .reservedA
  | 11 => .reservedB
  | 12 => .reservedC
  | 13 => .reservedD
  | 14 => .reservedE
  | _ => .reservedF

/-- The instruction of one opcode-table row, from its bits as the table numbers them. A command is one 32-bit
word (rules R81, R88); bits above `nbits` are zero. The decoder refuses no word. -/
def decodeTableWord (nbits w : Nat) : Option Instr := some (decode (BitVec.ofNat 32 (w % 2 ^ nbits)))

/-- The opcode of an instruction (rule R85). -/
def Instr.opcode : Instr → BitVec 4
  | .nop => 0x0
  | .vfreq _ _ => 0x1
  | .fxset _ => 0x2
  | .start => 0x3
  | .stop => 0x4
  | .poll => 0x5
  | .mode _ => 0x6
  | .rdstat => 0x7
  | .clrerr _ => 0x8
  | .reserved9 => 0x9
  | .reservedA => 0xA
  | .reservedB => 0xB
  | .reservedC => 0xC
  | .reservedD => 0xD
  | .reservedE => 0xE
  | .reservedF => 0xF

/-- A word from its three fields (rule R81). -/
def assemble (op ch : BitVec 4) (arg : BitVec 24) : Word32 :=
  op.zeroExtend 32 <<< 28 ||| ch.zeroExtend 32 <<< 24 ||| arg.zeroExtend 32

/-- The word of an instruction, with zeros in the ignored fields (rules R87, R90). -/
def encode (i : Instr) : Word32 :=
  match i with
  | .vfreq ch freq => assemble i.opcode ch freq
  | .fxset flags => assemble i.opcode 0 (flags.zeroExtend 24)
  | .mode auto => assemble i.opcode 0 (auto.zeroExtend 24)
  | .clrerr mask => assemble i.opcode 0 (mask.zeroExtend 24)
  | .nop => assemble i.opcode 0 0
  | .start => assemble i.opcode 0 0
  | .stop => assemble i.opcode 0 0
  | .poll => assemble i.opcode 0 0
  | .rdstat => assemble i.opcode 0 0
  | .reserved9 => assemble i.opcode 0 0
  | .reservedA => assemble i.opcode 0 0
  | .reservedB => assemble i.opcode 0 0
  | .reservedC => assemble i.opcode 0 0
  | .reservedD => assemble i.opcode 0 0
  | .reservedE => assemble i.opcode 0 0
  | .reservedF => assemble i.opcode 0 0

/-- The bits of a word that its own format gives a meaning, the rest cleared (rules R82, R87): all of them for
VFREQ, the opcode and the named low bits of `arg` for a `CA` command, the opcode alone otherwise. -/
def meaningfulBits (w : Word32) : Word32 :=
  match decode w with
  | .vfreq _ _ => w
  | .fxset _ => w &&& 0xF0000003
  | .mode _ => w &&& 0xF0000001
  | .clrerr _ => w &&& 0xF0000007
  | _ => w &&& 0xF0000000

end Sys2Proof
end

