-- ==== Sys2Proof/Machine/State.lean ====
section
/-! DEFINITION. The state of the block (rules R20 to R48, R60 to R62, R80, R214), the reasons a step can stop,
and the state after reset (rules R48, R270). -/

namespace Sys2Proof.Machine

open Sys2Proof

/-- Why a step stops. The spec gives the block no fault (rules R63, R247; 93 section 3: no input makes it
stuck). These mark an access the spec says cannot happen; `Sys2Proof.Safety.Inv` excludes them (log 9). -/
inductive Fault where
  /-- RefillSample looked up a phase whose index is outside `ROM` (rule R63). Safe: the machine stops. -/
  | romIndexOutOfRange
  /-- SampleTick read, or RefillSample would write, a word outside `OBUF` (rule R63). Safe: the machine stops. -/
  | obufIndexOutOfRange
  /-- RefillSample applied an effect function outside its domain (rules R144, R145). Safe: the machine stops. -/
  | effectDomain
deriving DecidableEq, Repr

/-- Why an instruction has no meaning. -/
inductive Refusal where
  /-- Raised only by an arm of `exec` whose instruction has no meaning yet; no arm of this model does. Safe. -/
  | notModelled (mnemonic : String)
deriving DecidableEq, Repr

/-- `SST`, the scheduler's main state; the value 3 is never taken (rule R33, 93 U13). -/
inductive SchedState where
  | idle
  | run
  | stopping
deriving DecidableEq, Repr

/-- `PST`, the playback engine's state (rule R34). -/
inductive PlayState where
  | off
  | prime
  | play
  | wait
deriving DecidableEq, Repr

/-- `BST[b]`, who owns a buffer (rule R35). -/
inductive BufState where
  | empty
  | filling
  | ready
  | playing
deriving DecidableEq, Repr

/-- One entry of the voice register file (rules R21 to R23). `VSTEP` and `PHASE` are naturals whose width `PW`
depends on the configuration; rule R46 invariant I2 bounds them (log 17). -/
structure Voice where
  /-- `VFREQ`, the pending frequency word (rule R21). -/
  vfreq : FreqWord
  /-- `VSTEP`, the latched step (rule R22). -/
  vstep : Nat
  /-- `VACT`, the latched active flag (rule R22). -/
  vact : Bool
  /-- `PHASE`, the phase accumulator (rule R23). -/
  phase : Nat
deriving DecidableEq, Repr

/-- The written words of one output buffer: (index, word) pairs, indices strictly rising. An index that is not
listed has not been written since reset (rules R48, R60, R62; log 4, log 5). -/
abbrev WordMem := List (Nat × Nat)

/-- The single-step pulses of the output ports made by the last step (rules R80, R89, R213). A payload exists
only with its strobe (93 U6, U7; log 13). -/
structure Pulses where
  /-- `rsp_valid` with `rsp_word` (rule R89). -/
  rsp : Option Word32
  /-- `ev_drained` with `ev_drained_buf` (rules R204, R213). -/
  drained : Option BufId
  /-- `ev_underrun` (rules R207, R213). -/
  underrun : Bool
  /-- `duty_strobe` (rules R80, R213). -/
  dutyStrobe : Bool
deriving DecidableEq, Repr

/-- No port pulses. -/
def Pulses.none : Pulses := { rsp := Option.none, drained := Option.none, underrun := false, dutyStrobe := false }

/-- The state of the block: every item of rule R20 and rule R214, the pulses of the ports, and the model's own
fields, which are `cfg` and those from `turns` on. -/
structure State where
  /-- The model's own: the parameters of this instance, constant (rules R6, R13; log 1). -/
  cfg : Config
  /-- `VFREQ`, `VSTEP`, `VACT`, `PHASE`, entry `ch` for voice `ch` (rules R21 to R24). -/
  voices : List Voice
  /-- `NACT` (rule R25). -/
  nact : Nat
  /-- `FXL`, bit 0 tremolo, bit 1 alternate effect (rule R25). -/
  fxl : BitVec 2
  /-- `TPH` (rule R26). -/
  tph : Nat
  /-- `FX`, the pending effect flags (rule R28). -/
  fx : BitVec 2
  /-- `CTRL.AUTO` (rule R29). -/
  auto : Bool
  /-- `WR_IDX` (rule R31). -/
  wrIdx : Nat
  /-- `RD_IDX` (rule R32). -/
  rdIdx : Nat
  /-- `SST` (rule R33). -/
  sst : SchedState
  /-- `PST` (rule R34). -/
  pst : PlayState
  /-- `BST[b]` (rule R35). -/
  bst : PerBuf BufState
  /-- `RQ`, head first (rule R36). -/
  rq : List BufId
  /-- `PQ`, head first (rule R37). -/
  pq : List BufId
  /-- `FILL_BUSY` (rule R38). -/
  fillBusy : Bool
  /-- `FILL_BUF` (rule R38). -/
  fillBuf : BufId
  /-- `PLAY_BUF` (rule R39). -/
  playBuf : BufId
  /-- `LASTW` (rule R40). -/
  lastw : Bool
  /-- `SIL_CNT` (rule R41). -/
  silCnt : Nat
  /-- `POLL_PEND` (rule R42). -/
  pollPend : Bool
  /-- `DUTY` (rule R43). -/
  duty : Nat
  /-- `UNDERRUN` (rule R44). -/
  underrun : Bool
  /-- `FREQ_SAT` (rule R44). -/
  freqSat : Bool
  /-- `CMDERR` (rule R44). -/
  cmdErr : Bool
  /-- `OBUF[b]` (rules R60, R62). -/
  obuf : PerBuf WordMem
  /-- `CNT` of the pulse-width stage (rule R214). -/
  cnt : Nat
  /-- `CMP` of the pulse-width stage (rule R214). -/
  cmp : Nat
  /-- The level of the input port `rst` at the last clock edge (rules R80, R270; log 11). -/
  rst : Bool
  /-- The pulses of the last step (rule R80; log 14). -/
  out : Pulses
  /-- The model's own: the turns still to come, next first (log 2). -/
  turns : List Turn
  /-- The model's own: steps taken, the counter the free values are taken at (log 2, log 13). -/
  freeCtr : Nat
  /-- The model's own: resets taken, which free contents `OBUF` has (log 4). -/
  obufEpoch : Nat
  /-- The model's own: for each buffer, the refills begun since reset (rule R46 I6; log 25). No step reads it but
  to number the words. -/
  refillNo : PerBuf Nat
  /-- The model's own: for each word of `obuf`, the number of the refill that wrote it (rule R46 I6; log 25). No
  step reads it. -/
  wordRefill : PerBuf WordMem
deriving DecidableEq, Repr

/-- The reset table of rule R48, with rules R214 and R270 for the pulse-width stage and the ports, for one
configuration. The model's own fields are as log 18 says. -/
def State.resetOf (c : Config) : State where
  cfg := c
  voices := List.replicate c.nch { vfreq := 0, vstep := 0, vact := false, phase := 0 }
  nact := 0
  fxl := 0
  tph := 0
  fx := c.fxReset
  auto := true
  wrIdx := 0
  rdIdx := 0
  sst := .idle
  pst := .off
  bst := { b0 := .empty, b1 := .empty }
  rq := []
  pq := []
  fillBusy := false
  fillBuf := .b0
  playBuf := .b0
  lastw := false
  silCnt := 0
  pollPend := false
  duty := c.idleDuty
  underrun := false
  freqSat := false
  cmdErr := false
  obuf := { b0 := [], b1 := [] }
  cnt := 0
  cmp := c.idleDuty
  rst := false
  out := Pulses.none
  turns := []
  freeCtr := 0
  obufEpoch := 0
  refillNo := { b0 := 0, b1 := 0 }
  wordRefill := { b0 := [], b1 := [] }

/-- The default configuration right after reset (rules R6, R48; log 1). -/
def State.reset : State := State.resetOf Config.standard

end Sys2Proof.Machine
end

