-- ==== Sys2Proof/Machine/Elaboration.lean ====
section
/-! DEFINITION. What elaboration computes once from the configuration: the derived constants of rule R7 and
`cfg_ok` with its negation `CFGERR` (rules R8, R243, R283). -/

namespace Sys2Proof

/-- `IW`, the integer bits of a phase (rule R7). -/
def Config.iw (c : Config) : Nat := clog2 c.l

/-- `PW`, the width of a phase and of a step (rule R7). -/
def Config.pw (c : Config) : Nat := c.iw + c.fw

/-- `PHMOD`, the modulus of a phase (rule R7). -/
def Config.phmod (c : Config) : Nat := c.l * 2 ^ c.fw

/-- `ACCW`, the width of the mix accumulator (rule R7). -/
def Config.accw (c : Config) : Nat := clog2 (c.nch * c.peak + 1)

/-- The timing condition (rule R283). -/
def Config.timingOk (c : Config) : Bool := decide (c.nbuf = 2 → c.refillTicksMax ≤ c.b)

/-- `cfg_ok` (rule R8). -/
def Config.ok (c : Config) : Bool := c.instanceOk && c.timingOk

/-- `CFGERR`, a constant of the instance (rules R44, R243; log 10). -/
def Config.cfgErr (c : Config) : Bool := !c.ok

/-- The buffers the instance has (rule R60). -/
def Config.hasBuf (c : Config) (b : BufId) : Bool := decide (b.idx < c.nbuf)

end Sys2Proof
end

