-- ==== Sys2Proof/Machine/Ops.lean ====
section
/-! DEFINITION. The shared operations: the words of a buffer, the register file, the queues, raising an error
flag and acknowledging it, and the start of a step. -/

namespace Sys2Proof.Machine

open Sys2Proof

/-! ## Buffer words (rules R60 to R64) -/

/-- The word written at an index, if one has been. -/
def memGet : WordMem → Nat → Option Nat
  | [], _ => none
  | (j, v) :: m, i => if i = j then some v else memGet m i

/-- The words after writing one (rule R68). -/
def memSet : WordMem → Nat → Nat → WordMem
  | [], i, v => [(i, v)]
  | (j, x) :: m, i, v =>
    if i < j then (i, v) :: (j, x) :: m
    else if i = j then (i, v) :: m
    else (j, x) :: memSet m i v

/-- The canonical form: indices strictly rising. An unlisted index reads as no written value, so no entry can
equal it (log 5). -/
def memWf : WordMem → Bool
  | [] => true
  | [_] => true
  | (i, _) :: (j, y) :: m => decide (i < j) && memWf ((j, y) :: m)

/-- What word `i` of `OBUF[b]` holds: the last word written there since reset, else a free value of `W` bits
(rules R48, R62; log 4). 93 U2 lets a word of an `EMPTY` buffer, or one of a refill discarded after STOP, have any
value; that it keeps the last word written is the model's choice (DESIGN CHOICE, log 24). -/
def State.wordAt (s : State) (b : BufId) (i : Nat) : Nat :=
  (memGet (s.obuf.get b) i).getD (Config.unwrittenWord s.obufEpoch b.idx i % 2 ^ s.cfg.w)

/-- Whether `OBUF[b]:i` exists (rule R60). -/
def State.obufHas (s : State) (b : BufId) (i : Nat) : Bool := s.cfg.hasBuf b && decide (i < s.cfg.b)

/-- `MemRead(OBUF[b] : i, 1)`; no value where the word does not exist (rules R10, R63). -/
def State.obufRead (s : State) (b : BufId) (i : Nat) : Option Nat :=
  if s.obufHas b i then some (s.wordAt b i) else none

/-- `MemWrite(OBUF[b] : i, 1, v)` for a word that exists (rule R10). -/
def State.setWord (s : State) (b : BufId) (i v : Nat) : State :=
  { s with obuf := s.obuf.set b (memSet (s.obuf.get b) i v) }

/-- `MemRead(ROM : i, 1)`; no value where the word does not exist (rules R10, R60, R61). -/
def romRead (c : Config) (i : Nat) : Option Nat := c.rom[i]?

/-! ## Registers -/

/-- `VFREQ[ch]`; no value where the voice does not exist (rules R21, R24). -/
def State.vfreqAt (s : State) (ch : Nat) : Option FreqWord := s.voices[ch]?.map Voice.vfreq

/-- `VFREQ[ch] <- f` (rules R21, R118). -/
def State.setVfreq (s : State) (ch : Nat) (f : FreqWord) : State :=
  { s with voices := s.voices.modify ch fun v => { v with vfreq := f } }

/-- Every buffer of the instance but one being filled becomes `EMPTY` (the loop of rule R164). -/
def State.dropBuffers (s : State) : PerBuf BufState :=
  { b0 := if s.cfg.hasBuf .b0 && !(s.fillBusy && s.fillBuf = .b0) then .empty else s.bst.b0
    b1 := if s.cfg.hasBuf .b1 && !(s.fillBusy && s.fillBuf = .b1) then .empty else s.bst.b1 }

/-! ## Errors: taking one and acknowledging it -/

/-- The sticky error flags (rules R44, R241). -/
inductive ErrFlag where
  | underrun
  | freqSat
  | cmdErr
deriving DecidableEq, Repr

/-- `raise X` (rules R10, R246): the sticky flag is set and, for UNDERRUN, `ev_underrun` pulses. Nothing is
saved, no mode changes and control goes nowhere: this is all the exception entry the block has (rule R253). -/
def State.raise (s : State) (x : ErrFlag) : State :=
  match x with
  | .underrun => { s with underrun := true, out := { s.out with underrun := true } }
  | .freqSat => { s with freqSat := true }
  | .cmdErr => { s with cmdErr := true }

/-- The acknowledgement of logged errors, which stands where other machines return from a trap: it clears the
flags selected and restores nothing (rules R227, R255). -/
def State.acknowledge (s : State) (u f c : Bool) : State :=
  { s with underrun := s.underrun && !u, freqSat := s.freqSat && !f, cmdErr := s.cmdErr && !c }

/-! ## The start of a step -/

/-- Whose turn is next: the head of the list, else a free value (rules R12, R71; log 2). -/
def State.nextTurn (s : State) : Turn := s.turns.head?.getD (Config.freeTurn s.freeCtr)

/-- The state a turn is taken in: the turn is used up, the pulses of the last step are over (rule R213; log 14)
and the free values' counter has moved on. -/
def State.beginStep (s : State) : State :=
  { s with turns := s.turns.tail, freeCtr := s.freeCtr + 1, out := Pulses.none }

end Sys2Proof.Machine
end

