-- ==== Sys2Proof/Machine/Operands.lean ====
section
/-! DEFINITION. What the operand fields of the commands mean (rules R84, R116, R136, R168, R227). -/

namespace Sys2Proof.Machine

open Sys2Proof

/-- `ch` as a natural `0..15` (rule R84). -/
def channelIndex (ch : BitVec 4) : Nat := ch.toNat

/-- The frequency word as the natural `F`, with frequency `F / 2^FQ` Hz (rule R116). -/
def freqNat (f : FreqWord) : Nat := f.toNat

/-- The tremolo flag, bit 0 (rules R28, R136). -/
def tremoloOn (fl : BitVec 2) : Bool := fl.getLsbD 0

/-- The alternate-effect flag, bit 1 (rules R28, R136). -/
def altOn (fl : BitVec 2) : Bool := fl.getLsbD 1

/-- `arg[0]` of MODE: true for the event model (rule R168). -/
def modeAuto (a : BitVec 1) : Bool := a.getLsbD 0

/-- `arg[0]` of CLRERR selects `UNDERRUN` (rule R227). -/
def maskUnderrun (m : BitVec 3) : Bool := m.getLsbD 0

/-- `arg[1]` of CLRERR selects `FREQ_SAT` (rule R227). -/
def maskFreqSat (m : BitVec 3) : Bool := m.getLsbD 1

/-- `arg[2]` of CLRERR selects `CMDERR` (rule R227). -/
def maskCmdErr (m : BitVec 3) : Bool := m.getLsbD 2

end Sys2Proof.Machine
end

