-- ==== Sys2Proof/Machine/Voice.lean ====
section
/-! DEFINITION. The phase accumulators (41_phase_accumulator.md): the step computation, the VFREQ command, and
what a refill does to one voice. -/

namespace Sys2Proof.Machine

open Sys2Proof

/-- `StepRaw(F)` (rule R117): an exact product and one floor division. -/
def stepRaw (c : Config) (f : Nat) : Nat := c.l * f * 2 ^ c.fw / (c.fs * 2 ^ c.fq)

/-- `StepOf(F)` (rules R117, R119): saturated one unit below the table length. -/
def stepOf (c : Config) (f : Nat) : Nat := min (stepRaw c f) (c.phmod - 1)

/-- `PhaseAdv(p, s)` (rule R123): one subtraction at the wrap. -/
def phaseAdv (c : Config) (p s : Nat) : Nat := if p + s ≥ c.phmod then p + s - c.phmod else p + s

/-- VFREQ (rules R118, R119). -/
def execVfreq (ch : BitVec 4) (freq : FreqWord) (s : State) : Host.Outcome State Fault Refusal :=
  if channelIndex ch ≥ s.cfg.nch then .next (s.raise .cmdErr)
  else if stepRaw s.cfg (freqNat freq) ≥ s.cfg.phmod then
    .next ((s.setVfreq (channelIndex ch) freq).raise .freqSat)
  else .next (s.setVfreq (channelIndex ch) freq)

/-- Whether a voice's pending frequency word makes it active (rule R120). -/
def Voice.pendingActive (v : Voice) : Bool := v.vfreq != 0

/-- The latch of one voice at RefillStart (rule R122). -/
def Voice.latch (c : Config) (v : Voice) : Voice :=
  { v with vstep := stepOf c (freqNat v.vfreq), vact := v.pendingActive }

/-- The phase advance of one voice at RefillSample; only an active voice moves (rules R123, R125). -/
def Voice.advance (c : Config) (v : Voice) : Voice :=
  if v.vact then { v with phase := phaseAdv c v.phase v.vstep } else v

end Sys2Proof.Machine
end

