-- ==== Sys2Proof/Machine/Mixer.lean ====
section
/-! DEFINITION. The mixer (40_waveform_rom_lut.md, 42_voice_mixer_sum.md): the lookup, the sum, the
normalisation, the two effects, the clamp, and the FXSET command. -/

namespace Sys2Proof.Machine

open Sys2Proof

/-- FXSET (rule R136). -/
def execFxset (flags : BitVec 2) (s : State) : Host.Outcome State Fault Refusal :=
  .next { s with fx := flags }

/-- `isqrt` by its binary digits, the highest first: `r` is the part found, `k` the digits still to find. -/
def isqrtDigits (n : Nat) : Nat → Nat → Nat
  | 0, r => r
  | k + 1, r => isqrtDigits n k (if (r + 2 ^ k) * (r + 2 ^ k) ≤ n then r + 2 ^ k else r)

/-- `isqrt(n)`, the largest natural `r` with `r*r <= n` (rule R9). -/
def isqrt (n : Nat) : Nat := isqrtDigits n (n.log2 / 2 + 1) 0

/-- `Lookup(p)` (rule R106): the fraction bits are dropped. -/
def lookup (c : Config) (p : Nat) : Option Nat := romRead c (p / 2 ^ c.fw)

/-- The sum of one table sample per active voice (rule R139). -/
def mixSum (c : Config) : List Voice → Option Nat
  | [] => some 0
  | v :: vs =>
    if v.vact then (lookup c v.phase).bind fun x => (mixSum c vs).map fun acc => x + acc
    else mixSum c vs

/-- The normalisation: the quotient by the number of active voices to nearest, a tie upward (rule R141). -/
def normalise (acc nact : Nat) : Nat := (2 * acc + nact) / (2 * nact)

/-- `Reshape(m)` (rule R144). -/
def reshape (c : Config) (m : Nat) : Option Nat :=
  match c.reshape with
  | .isqrtPeak => some (isqrt (m * c.peak))
  | .table shape => shape[m]?

/-- `TremGain(t)` (rule R145). -/
def tremGain (c : Config) (t : Nat) : Option Nat :=
  match c.tremGain with
  | .romAtPhase => lookup c t
  | .table gain => gain[t]?

/-- The alternate effect, when its flag is set (rules R143, R144). -/
def applyReshape (c : Config) (fxl : BitVec 2) (m : Nat) : Option Nat :=
  if altOn fxl then reshape c m else some m

/-- The tremolo, when its flag is set (rules R143, R145). -/
def applyTremolo (c : Config) (fxl : BitVec 2) (tph r : Nat) : Option Nat :=
  if tremoloOn fxl then (tremGain c tph).map fun g => r * g / c.gden else some r

/-- The effect stage and the clamp: reshape first, tremolo second (rules R143, R146, R148). -/
def effectStage (c : Config) (fxl : BitVec 2) (tph m : Nat) : Option Nat :=
  (applyReshape c fxl m).bind fun r => (applyTremolo c fxl tph r).map fun y => min y c.dutyMax

/-- MixSample (rules R135, R137, R138): from latched state only. -/
def State.mixSample (s : State) : Except Fault Nat :=
  if s.nact = 0 then .ok s.cfg.idleDuty
  else
    match mixSum s.cfg s.voices with
    | none => .error .romIndexOutOfRange
    | some acc =>
      match effectStage s.cfg s.fxl s.tph (normalise acc s.nact) with
      | none => .error .effectDomain
      | some d => .ok d

end Sys2Proof.Machine
end

