-- ==== Sys2Proof/Machine/Scheduler.lean ====
section
/-! DEFINITION. The scheduler's commands (43_buffer_scheduler_fifo.md section 2). -/

namespace Sys2Proof.Machine

open Sys2Proof

/-- The requests START queues: buffer 0, then buffer 1 if there is one (rules R162, R163). -/
def startRequests (c : Config) : List BufId := if c.nbuf = 1 then [.b0] else [.b0, .b1]

/-- START (rule R162). -/
def execStart (s : State) : Host.Outcome State Fault Refusal :=
  if s.cfg.cfgErr then .next (s.raise .cmdErr)
  else if s.sst = .idle then
    .next { s with
      sst := .run, pst := .prime, rq := startRequests s.cfg, pq := [], silCnt := 0, lastw := false,
      pollPend := true, rdIdx := 0 }
  else .next s

/-- STOP (rules R164, R165). -/
def execStop (s : State) : Host.Outcome State Fault Refusal :=
  if s.sst = .run then
    .next { s with
      rq := [], pq := [], lastw := false, pollPend := false, pst := .off, bst := s.dropBuffers,
      sst := if s.fillBusy then .stopping else .idle }
  else .next s

/-- POLL (rule R166). -/
def execPoll (s : State) : Host.Outcome State Fault Refusal :=
  if s.sst = .run ∧ s.rq.length > 0 then .next { s with pollPend := true } else .next s

/-- MODE (rule R168). -/
def execMode (auto : BitVec 1) (s : State) : Host.Outcome State Fault Refusal :=
  if s.sst ≠ .idle then .next (s.raise .cmdErr) else .next { s with auto := modeAuto auto }

end Sys2Proof.Machine
end

