-- ==== Sys2Proof/Machine/Flags.lean ====
section
/-! DEFINITION. The status word (rule R45) and the codes its fields hold. -/

namespace Sys2Proof.Machine

open Sys2Proof

/-- The code of `SST` (rule R33). -/
def SchedState.code : SchedState → BitVec 2
  | .idle => 0
  | .run => 1
  | .stopping => 2

/-- The code of `PST` (rule R34). -/
def PlayState.code : PlayState → BitVec 2
  | .off => 0
  | .prime => 1
  | .play => 2
  | .wait => 3

/-- The code of `BST[b]` (rule R35). No command reads it. -/
def BufState.code : BufState → BitVec 2
  | .empty => 0
  | .filling => 1
  | .ready => 2
  | .playing => 3

/-- A buffer identifier as one bit (rules R38, R39). -/
def BufId.bit : BufId → BitVec 1
  | .b0 => 0
  | .b1 => 1

/-- The low byte of `STATUS`, bits 7:0 (rule R45). -/
def State.statusLow (s : State) : BitVec 8 :=
  s.pst.code ++ s.sst.code ++ BitVec.ofBool s.cfg.cfgErr ++ BitVec.ofBool s.cmdErr ++ BitVec.ofBool s.freqSat ++
    BitVec.ofBool s.underrun

/-- Bits 15:8 of `STATUS` (rule R45). -/
def State.statusMid (s : State) : BitVec 8 :=
  BitVec.ofBool s.pollPend ++ BitVec.ofBool s.auto ++ s.fx ++ BitVec.ofBool s.lastw ++ BufId.bit s.fillBuf ++
    BitVec.ofBool s.fillBusy ++ BufId.bit s.playBuf

/-- Bits 23:16 of `STATUS` (rule R45; log 23 for counts that no run reaches). -/
def State.statusHigh (s : State) : BitVec 8 :=
  BitVec.ofNat 4 s.silCnt ++ BitVec.ofNat 2 s.pq.length ++ BitVec.ofNat 2 s.rq.length

/-- `STATUS` (rule R45); bits 31:24 read 0. -/
def State.status (s : State) : Word32 := (0 : BitVec 8) ++ s.statusHigh ++ s.statusMid ++ s.statusLow

end Sys2Proof.Machine
end

