-- ==== Sys2Proof/Machine/System.lean ====
section
/-! DEFINITION. The system commands and the reserved opcodes (45_system_commands.md). -/

namespace Sys2Proof.Machine

open Sys2Proof

/-- NOP (rule R225). -/
def execNop (s : State) : Host.Outcome State Fault Refusal := .next s

/-- RDSTAT (rules R89, R226): the word is of the state before the step. -/
def execRdstat (s : State) : Host.Outcome State Fault Refusal :=
  .next { s with out := { s.out with rsp := some s.status } }

/-- CLRERR (rule R227). -/
def execClrerr (mask : BitVec 3) (s : State) : Host.Outcome State Fault Refusal :=
  .next (s.acknowledge (maskUnderrun mask) (maskFreqSat mask) (maskCmdErr mask))

/-- A command refused with CMDERR, changing nothing else (rules R228, R245). -/
def State.refuseCommand (s : State) : State := s.raise .cmdErr

/-- The reserved opcode 0x9 (rules R86, R228). -/
def execReserved9 (s : State) : Host.Outcome State Fault Refusal := .next s.refuseCommand

/-- The reserved opcode 0xA (rules R86, R228). -/
def execReservedA (s : State) : Host.Outcome State Fault Refusal := .next s.refuseCommand

/-- The reserved opcode 0xB (rules R86, R228). -/
def execReservedB (s : State) : Host.Outcome State Fault Refusal := .next s.refuseCommand

/-- The reserved opcode 0xC (rules R86, R228). -/
def execReservedC (s : State) : Host.Outcome State Fault Refusal := .next s.refuseCommand

/-- The reserved opcode 0xD (rules R86, R228). -/
def execReservedD (s : State) : Host.Outcome State Fault Refusal := .next s.refuseCommand

/-- The reserved opcode 0xE (rules R86, R228). -/
def execReservedE (s : State) : Host.Outcome State Fault Refusal := .next s.refuseCommand

/-- The reserved opcode 0xF (rules R86, R228). -/
def execReservedF (s : State) : Host.Outcome State Fault Refusal := .next s.refuseCommand

end Sys2Proof.Machine
end

