-- ==== Sys2Proof/Machine/Playback.lean ====
section
/-! DEFINITION. The playback engine (44_pwm_double_buffer.md): SampleTick, the hand-off, the drain, the underrun,
and the pulse-width stage behind `DUTY`. -/

namespace Sys2Proof.Machine

open Sys2Proof

/-- Sub-step 1 of SampleTick: a filled buffer is taken for playing at the tick that needs its first sample
(rules R201, R202). -/
def State.acquire (s : State) : State :=
  if s.pst = .prime ∨ s.pst = .wait then
    match s.pq with
    | [] => s
    | b :: rest =>
      { s with pq := rest, playBuf := b, rdIdx := 0, bst := s.bst.set b .playing, pst := .play }
  else s

/-- The drain (rules R201, R204): the buffer is empty, its refill is requested unless the run is ending, and the
event pulses. The words stay as written, which 93 U2 leaves open for an `EMPTY` buffer (DESIGN CHOICE, log 24). -/
def State.drain (s : State) : State :=
  { s with
    bst := s.bst.set s.playBuf .empty
    out := { s.out with drained := some s.playBuf }
    rq := if s.lastw then s.rq else s.rq ++ [s.playBuf]
    rdIdx := 0
    pst := .wait }

/-- The emit of one word (rules R201, R203), with the drain after the last one. -/
def State.emit (s : State) (v : Nat) : State :=
  if s.rdIdx + 1 = s.cfg.b then State.drain { s with duty := v, rdIdx := s.rdIdx + 1 }
  else { s with duty := v, rdIdx := s.rdIdx + 1 }

/-- The end of the last window: back to idle with the idle value (rules R201, R206). -/
def State.goIdle (s : State) : State :=
  { s with sst := .idle, pst := .off, lastw := false, duty := s.cfg.idleDuty }

/-- Sub-step 3 of SampleTick. -/
def State.strobe (s : State) : State := { s with out := { s.out with dutyStrobe := true } }

/-- Sub-step 2 of SampleTick (rules R201, R205, R206, R207, R209). -/
def State.tickCase (s : State) : Host.Outcome State Fault Refusal :=
  match s.pst with
  | .play =>
    match s.obufRead s.playBuf s.rdIdx with
    | none => .fault .obufIndexOutOfRange
    | some v => .next (s.emit v)
  | .prime => if s.lastw then .next s.goIdle else .next { s with duty := s.cfg.idleDuty }
  | .wait =>
    if s.lastw then .next s.goIdle
    else if s.cfg.nbuf = 2 then .next (s.raise .underrun)
    else .next s
  | .off => .next { s with duty := s.cfg.idleDuty }

/-- SampleTick (rule R201). -/
def sampleTick (s : State) : Host.Outcome State Fault Refusal :=
  match s.acquire.tickCase with
  | .next t => .next t.strobe
  | .fault r => .fault r
  | .refused r => .refused r

/-- The boundary cycle of a sample period: SampleTick is taken, `CNT` returns to 0 and `CMP` takes the new
`DUTY` (rule R214). -/
def periodBoundary (s : State) : Host.Outcome State Fault Refusal :=
  match sampleTick s with
  | .next t => .next { t with cnt := 0, cmp := t.duty }
  | .fault r => .fault r
  | .refused r => .refused r

/-- One clock cycle of the pulse-width stage (rule R214). -/
def pwmCycle (s : State) : Host.Outcome State Fault Refusal :=
  if s.cnt + 1 < s.cfg.dutyMax then .next { s with cnt := s.cnt + 1 } else periodBoundary s

/-- `pwm_out` in the clock cycle that begins in this state (rules R80, R214). -/
def State.pwmOut (s : State) : Bool := if s.cnt < s.cmp then s.cfg.pwmPol else !s.cfg.pwmPol

end Sys2Proof.Machine
end

