-- ==== Sys2Proof/Machine/Ports.lean ====
section
/-! DEFINITION. The output ports as the outside sees them after a step (rules R80, R83, R89, R213). `pwm_out` is
`State.pwmOut` of Machine/Playback.lean. -/

namespace Sys2Proof.Machine

open Sys2Proof

/-- `cmd_ready`: 1 whenever the block is out of reset (rules R80, R83). -/
def State.cmdReady (s : State) : Bool := !s.rst

/-- `rsp_valid` (rule R89). -/
def State.rspValid (s : State) : Bool := s.out.rsp.isSome

/-- `rsp_word`; any value without `rsp_valid` (rule R89, 93 U6; log 13). -/
def State.rspWord (s : State) : Word32 := s.out.rsp.getD (Config.idleRspWord s.freeCtr)

/-- `ev_drained` (rule R213). -/
def State.evDrained (s : State) : Bool := s.out.drained.isSome

/-- `ev_drained_buf`; any value without `ev_drained` (rule R213, 93 U7; log 13). -/
def State.evDrainedBuf (s : State) : BitVec 1 :=
  (s.out.drained.map fun b => BitVec.ofNat 1 b.idx).getD (Config.idleDrainedBuf s.freeCtr)

/-- `ev_underrun` (rule R213). -/
def State.evUnderrun (s : State) : Bool := s.out.underrun

/-- `duty_strobe` (rule R213). -/
def State.dutyStrobe (s : State) : Bool := s.out.dutyStrobe

/-- `duty`, the `DUTY` register, continuously (rule R80). -/
def State.dutyPort (s : State) : Nat := s.duty

end Sys2Proof.Machine
end

