-- ==== Sys2Proof/Machine/Refill.lean ====
section
/-! DEFINITION. The refill engine (43_buffer_scheduler_fifo.md section 3): RefillStart, RefillSample,
RefillDone. -/

namespace Sys2Proof.Machine

open Sys2Proof

/-- When RefillStart is enabled (rule R170). -/
def State.refillStartEnabled (s : State) : Bool :=
  decide (s.sst = .run) && !s.fillBusy && decide (s.rq.length > 0) && !s.lastw && (s.auto || s.pollPend)

/-- When RefillSample is enabled (rule R175). -/
def State.refillSampleEnabled (s : State) : Bool := s.fillBusy && decide (s.wrIdx < s.cfg.b)

/-- When RefillDone is enabled (rule R178). -/
def State.refillDoneEnabled (s : State) : Bool := s.fillBusy && decide (s.wrIdx = s.cfg.b)

/-- Sub-step 2 of RefillStart: every voice, the count of active voices and the effect flags are latched
together (rules R122, R135, R170). -/
def State.latchInputs (s : State) : State :=
  { s with
    voices := s.voices.map (Voice.latch s.cfg)
    nact := s.voices.countP Voice.pendingActive
    fxl := s.fx }

/-- Sub-step 3 of RefillStart: the silence counter (rules R170, R173). -/
def State.countSilence (s : State) : State :=
  { s with silCnt := if s.nact = 0 then min (s.silCnt + 1) s.cfg.silenceLimit else 0 }

/-- Sub-step 4 of RefillStart for the buffer taken from `RQ`: the silence cut-off, or the fill begins, as
one refill more of that buffer (rules R170, R172; log 25). -/
def State.cutOffOrFill (s : State) (k : BufId) : State :=
  if s.nact = 0 ∧ s.silCnt = s.cfg.silenceLimit then { s with rq := [], lastw := true }
  else
    { s with
      fillBuf := k, fillBusy := true, wrIdx := 0, bst := s.bst.set k .filling,
      refillNo := s.refillNo.set k (s.refillNo.get k + 1) }

/-- RefillStart (rule R170); `k` is the head of `RQ` and `rest` what follows it. -/
def State.refillStart (s : State) (k : BufId) (rest : List BufId) : State :=
  ({ s with rq := rest, pollPend := false }.latchInputs.countSilence).cutOffOrFill k

/-- Sub-steps 2 to 5 of RefillSample, for the sample MixSample gave (rules R175, R147). The word is numbered with
the refill that writes it (log 25). -/
def State.refillWrite (s : State) (d : Nat) : State :=
  { s.setWord s.fillBuf s.wrIdx d with
    voices := s.voices.map (Voice.advance s.cfg)
    tph := (s.tph + s.cfg.tstep) % s.cfg.tmod
    wrIdx := s.wrIdx + 1
    wordRefill := s.wordRefill.set s.fillBuf
      (memSet (s.wordRefill.get s.fillBuf) s.wrIdx (s.refillNo.get s.fillBuf)) }

/-- RefillSample (rule R175). The faults are for states no run reaches (rules R63, R247; log 9). -/
def State.refillSample (s : State) : Host.Outcome State Fault Refusal :=
  match s.mixSample with
  | .error r => .fault r
  | .ok d => if s.obufHas s.fillBuf s.wrIdx then .next (s.refillWrite d) else .fault .obufIndexOutOfRange

/-- RefillDone (rules R178, R165; log 20). The words of a discarded window stay as written, which 93 U2 leaves open
(DESIGN CHOICE, log 24). -/
def State.refillDone (s : State) : State :=
  if s.sst = .run then
    { s with fillBusy := false, bst := s.bst.set s.fillBuf .ready, pq := s.pq ++ [s.fillBuf] }
  else { s with fillBusy := false, bst := s.bst.set s.fillBuf .empty, sst := .idle }

/-- The refill engine's turn: the one enabled step is taken; with none enabled the turn passes (rule R169; log
3). -/
def refillTurn (s : State) : Host.Outcome State Fault Refusal :=
  if s.refillStartEnabled then
    match s.rq with
    | [] => .next s
    | k :: rest => .next (s.refillStart k rest)
  else if s.refillSampleEnabled then s.refillSample
  else if s.refillDoneEnabled then .next s.refillDone
  else .next s

end Sys2Proof.Machine
end

