-- ==== Sys2Proof/Machine/Reset.lean ====
section
/-! DEFINITION. Reset (70_reset_and_hazards.md section 1). -/

namespace Sys2Proof.Machine

open Sys2Proof

/-- A rising clock edge with `rst = 1` (rules R48, R270): every item takes its reset value and the buffers'
contents are unspecified again. The instance, the turns to come and the free values' counters are outside the
block and go on (log 21). -/
def State.resetEdge (s : State) : State :=
  { State.resetOf s.cfg with
    rst := true, out := s.out, turns := s.turns, freeCtr := s.freeCtr, obufEpoch := s.obufEpoch + 1 }

/-- A rising clock edge at which `rst` has the given level (rule R270; log 11). -/
def rstTurn (level : Bool) (s : State) : Host.Outcome State Fault Refusal :=
  if level then .next s.resetEdge else .next { s with rst := false }

end Sys2Proof.Machine
end

