-- ==== Sys2Proof/Machine/Agents.lean ====
section
/-! DEFINITION. The agents' turns (rule R12): the command port, the refill engine, the playback engine, the
pulse-width stage and reset. -/

namespace Sys2Proof.Machine

open Sys2Proof

/-- The command step (rule R83): the word is decoded and the whole command performed. -/
def commandTurn (w : Word32) (s : State) : Host.Outcome State Fault Refusal := exec (decode w) s

/-- One agent's turn. While `rst = 1` no command is accepted and no engine steps (rule R270; log 11). -/
def takeTurn (t : Turn) (s : State) : Host.Outcome State Fault Refusal :=
  match t with
  | .rstEdge level => rstTurn level s
  | .command w => if s.cmdReady then commandTurn w s else .next s
  | .refill => if s.rst then .next s else refillTurn s
  | .sampleTick => if s.rst then .next s else periodBoundary s
  | .pwmCycle => if s.rst then .next s else pwmCycle s

/-- The next agent's turn (rules R12, R71). -/
def agentStep (s : State) : Host.Outcome State Fault Refusal := takeTurn s.nextTurn s.beginStep

/-- The state in which the host's next word on the command port is the low `nbits` bits of `w`, and the port is
ready for it (rules R83, R270; log 2). -/
def presentWord (s : State) (nbits w : Nat) : State :=
  { s with turns := Turn.command (BitVec.ofNat 32 (w % 2 ^ nbits)) :: s.turns, rst := false }

end Sys2Proof.Machine
end

