-- ==== Sys2Proof/Machine/Step.lean ====
section
/-! DEFINITION. One step of the block, and how an instruction is put where the next step takes it. -/

namespace Sys2Proof.Machine

open Sys2Proof

/-- One step: the next agent's turn (rules R12, R71). -/
def step (s : State) : Host.Outcome State Fault Refusal := agentStep s

/-- The state whose next step is the host presenting this word at a ready command port (log 2). -/
def State.withFetchWord (s : State) (nbits w : Nat) : State := presentWord s nbits w

end Sys2Proof.Machine
end

