-- ==== Sys2Proof/Safety.lean ====
section
/-! DEFINITION. The terms claims are stated in: the invariants of rule R46, runs over an interleaving of turns and
what they show (rule R14), the samples computed and not yet heard, and the refill deadline (rules R282 to R284). -/

namespace Sys2Proof.Safety

open Sys2Proof Sys2Proof.Machine

/-! ## The invariants of rule R46 -/

/-- Buffer `b` is being filled (rule R46 I1). -/
def beingFilled (s : State) (b : BufId) : Bool := s.fillBusy && decide (s.fillBuf = b)

/-- Buffer `b` is being played (rule R46 I1). -/
def beingPlayed (s : State) (b : BufId) : Bool := decide (s.pst = .play) && decide (s.playBuf = b)

/-- In how many of the four places of rule R46 I1 buffer `b` is, counting repetitions in the queues. -/
def places (s : State) (b : BufId) : Nat :=
  s.rq.count b + s.pq.count b + (beingFilled s b).toNat + (beingPlayed s b).toNat

/-- The `BST` value that goes with the place of buffer `b` (rule R46 I1). -/
def placeState (s : State) (b : BufId) : BufState :=
  if beingFilled s b then .filling
  else if b ∈ s.pq then .ready
  else if beingPlayed s b then .playing
  else .empty

/-- Word `i` of buffer `b` was written by the most recent refill of that buffer, with a value that is at most
`DUTY_MAX` (rule R46 I6; log 25). -/
def holdsDuty (s : State) (b : BufId) (i : Nat) : Prop :=
  (∃ v, memGet (s.obuf.get b) i = some v ∧ v ≤ s.cfg.dutyMax) ∧
  memGet (s.wordRefill.get b) i = some (s.refillNo.get b)

/-- Rule R46, I1 to I7, for an instance of the block. The clauses named after no invariant of the rule are what
its induction needs beside them, each a rule of its own. -/
structure Inv (s : State) : Prop where
  /-- The configuration is an instance of the block (rule R8, 93 U14). -/
  isInstance : s.cfg.instanceOk = true
  /-- There are `NCH` voices (rules R21, R115). -/
  voiceCount : s.voices.length = s.cfg.nch
  /-- `NACT` counts the latched active voices (rule R25). -/
  activeCount : s.nact = s.voices.countP Voice.vact
  /-- I1: a buffer is in one place at most, one that does not exist is in none. -/
  placedOnce : ∀ b, places s b ≤ if s.cfg.hasBuf b then 1 else 0
  /-- I1: `BST` says the place. -/
  bstIsPlace : ∀ b, s.bst.get b = placeState s b
  /-- I2, the voices. -/
  voiceRange : ∀ v ∈ s.voices, v.phase < s.cfg.phmod ∧ v.vstep < s.cfg.phmod
  /-- I2, the tremolo phase. -/
  tphRange : s.tph < s.cfg.tmod
  /-- I2, the write index. -/
  wrRange : s.wrIdx ≤ s.cfg.b
  /-- I2, the read index. -/
  rdRange : s.rdIdx < s.cfg.b
  /-- I2, the silence counter. -/
  silRange : s.silCnt ≤ s.cfg.silenceLimit
  /-- I2, the duty register. -/
  dutyRange : s.duty ≤ s.cfg.dutyMax
  /-- I3. -/
  idleIsQuiet : s.sst = .idle → s.pst = .off ∧ s.fillBusy = false ∧ s.rq = [] ∧ s.pq = [] ∧ s.lastw = false ∧
    s.pollPend = false ∧ s.bst.b0 = .empty ∧ s.bst.b1 = .empty
  /-- I4. -/
  lastWindow : s.lastw = true → s.sst = .run ∧ s.fillBusy = false ∧ s.rq = [] ∧ s.pollPend = false
  /-- I5, with `POLL_PEND = 0` (rules R164, R166). -/
  stoppingIsQuiet : s.sst = .stopping → s.fillBusy = true ∧ s.pst = .off ∧ s.rq = [] ∧ s.pq = [] ∧
    s.lastw = false ∧ s.pollPend = false
  /-- I6. -/
  readyWords : ∀ b, s.bst.get b = .ready ∨ s.bst.get b = .playing → ∀ i < s.cfg.b, holdsDuty s b i
  /-- I7. -/
  playIsRun : s.pst ≠ .off → s.sst = .run
  /-- The words the refill in progress has written so far (rule R175), which is what makes I6 hold at its end. -/
  filledWords : s.fillBusy = true → ∀ i < s.wrIdx, holdsDuty s s.fillBuf i
  /-- The buffers' words are in canonical form and exist, and each is a duty value (rules R60, R148). -/
  storedWords : ∀ b, memWf (s.obuf.get b) = true ∧ memWf (s.wordRefill.get b) = true ∧
    ∀ e ∈ s.obuf.get b, s.obufHas b e.1 = true ∧ e.2 ≤ s.cfg.dutyMax
  /-- While running and not in the last window, every buffer is in one of the four places (rules R161, R180). -/
  noneFree : s.sst = .run → s.lastw = false → ∀ b, s.cfg.hasBuf b = true → places s b = 1
  /-- An instance with `CFGERR = 1` never leaves idle and emits the idle value (rule R243). -/
  errStaysIdle : s.cfg.cfgErr = true → s.sst = .idle ∧ s.duty = s.cfg.idleDuty
  /-- The pulse-width stage (rule R214). -/
  pwmRange : s.cnt < s.cfg.dutyMax ∧ s.cmp ≤ s.cfg.dutyMax

/-! ## The table (rule R101) -/

/-- The table holds the raised sine of rule R101, computed over the reals: the sine from 0 to `PEAK`, rounded to
nearest, a tie upward. The model itself takes the table as data (rule R105, log 8). -/
def isRaisedSine (c : Config) : Prop :=
  c.rom.length = c.l ∧ ∀ i < c.l, ∃ x : Nat, romRead c i = some x ∧
    (x : Int) = ⌊(c.peak : ℝ) * (Real.sin (2 * Real.pi * i / c.l) + 1) / 2 + 1 / 2⌋

/-! ## Runs over an interleaving (rules R12, R92) -/

/-- The state in which the given turn is next. -/
def present (t : Turn) (s : State) : State := { s with turns := t :: s.turns }

/-- The turns of one interleaving, taken in order; a fault or a refusal ends the run. -/
def runTurns : List Turn → State → Host.Outcome State Fault Refusal
  | [], s => .next s
  | t :: ts, s =>
    match step (present t s) with
    | .next s' => runTurns ts s'
    | .fault r => .fault r
    | .refused r => .refused r

/-- What can be observed of the block (rule R14). -/
inductive Obs where
  /-- The response word of a RDSTAT. -/
  | response (w : Word32)
  /-- An `ev_drained` pulse, in its position in the duty trace. -/
  | drained (b : BufId)
  /-- An `ev_underrun` pulse, in its position in the duty trace. -/
  | underrun
  /-- The value of `DUTY` after a SampleTick. -/
  | duty (d : Nat)
deriving DecidableEq, Repr

/-- What one step showed, from the state it left (rule R14). -/
def observed (s : State) : List Obs :=
  (s.out.rsp.map Obs.response).toList ++ (if s.dutyStrobe then [Obs.duty s.duty] else []) ++
    (s.out.drained.map Obs.drained).toList ++ (if s.evUnderrun then [Obs.underrun] else [])

/-- What a run shows, in order (rule R14). -/
def observations : List Turn → State → List Obs
  | [], _ => []
  | t :: ts, s =>
    match step (present t s) with
    | .next s' => observed s' ++ observations ts s'
    | .fault _ => []
    | .refused _ => []

/-- The duty trace of a run (rules R14, R200). -/
def dutyTrace (ts : List Turn) (s : State) : List Nat :=
  (observations ts s).filterMap fun o => match o with
    | .duty d => some d
    | .response _ => none
    | .drained _ => none
    | .underrun => none

/-- The turns of one clock cycle of a clocked implementation, in the order of rule R252: the sample tick, then
the refill engine, then the command. -/
def sameCycle (tick refill : Bool) (cmd : Option Word32) : List Turn :=
  (if tick then [Turn.sampleTick] else []) ++ (if refill then [Turn.refill] else []) ++
    (cmd.map Turn.command).toList

/-! ## The samples computed and not yet heard (rules R72, R202, R210) -/

/-- The words of buffer `b` from index `i` to the end of the window, in playing order. -/
def windowFrom (s : State) (b : BufId) (i : Nat) : List Nat :=
  (List.range' i (s.cfg.b - i)).map (s.wordAt b)

/-- What is left of the window being played. -/
def playingRest (s : State) : List Nat :=
  if s.pst = .play then windowFrom s s.playBuf s.rdIdx else []

/-- The windows waiting in `PQ`, in order. -/
def readyRest (s : State) : List Nat := s.pq.flatMap fun b => windowFrom s b 0

/-- What the refill in progress has written of a window that will be played (not one STOP has discarded, rule
R165). -/
def fillingRest (s : State) : List Nat :=
  if s.fillBusy = true ∧ s.sst = .run then (List.range s.wrIdx).map (s.wordAt s.fillBuf) else []

/-- Every sample computed and still to be heard, next first. -/
def unheard (s : State) : List Nat := playingRest s ++ readyRest s ++ fillingRest s

/-! ## What the sound depends on (rules R49, R135, R286) -/

/-- The state with the pending registers `VFREQ` and `FX` cleared. -/
def withoutPending (s : State) : State :=
  { s with voices := s.voices.map fun v => Voice.mk 0 v.vstep v.vact v.phase, fx := 0 }

/-- Two states that differ at most in the pending registers `VFREQ` and `FX`. -/
def samePending (s t : State) : Prop := withoutPending s = withoutPending t

/-! ## The transition table (rule R179) -/

/-- The turn is the host presenting this command. -/
def isCommand (i : Instr) : Turn → Bool
  | .command w => decide (decode w = i)
  | .refill => false
  | .sampleTick => false
  | .pwmCycle => false
  | .rstEdge _ => false

/-- The turn takes SampleTick (rules R201, R214). -/
def isTick (u : Turn) (s : State) : Bool :=
  decide (u = .sampleTick) || (decide (u = .pwmCycle) && decide (s.cfg.dutyMax ≤ s.cnt + 1))

/-- The table of rule R179: (`SST`, `PST`) after a turn. No turn but a reset edge does anything while `rst = 1`
(rule R270). -/
def nextModes (u : Turn) (s : State) : SchedState × PlayState :=
  if u = .rstEdge true then (.idle, .off)
  else if s.rst then (s.sst, s.pst)
  else
    match s.sst, s.pst with
    | .idle, p => if isCommand .start u && !s.cfg.cfgErr then (.run, .prime) else (.idle, p)
    | .stopping, p => if decide (u = .refill) && s.refillDoneEnabled then (.idle, .off) else (.stopping, p)
    | .run, p =>
      if isCommand .stop u then (if s.fillBusy then .stopping else .idle, .off)
      else if isTick u s then
        match p with
        | .off => (.run, .off)
        | .play => if s.rdIdx + 1 = s.cfg.b then (.run, .wait) else (.run, .play)
        | .prime =>
          if s.pq ≠ [] then (.run, if s.cfg.b = 1 then .wait else .play)
          else if s.lastw then (.idle, .off) else (.run, .prime)
        | .wait =>
          if s.pq ≠ [] then (.run, if s.cfg.b = 1 then .wait else .play)
          else if s.lastw then (.idle, .off) else (.run, .wait)
      else (.run, p)

/-! ## The refill deadline (rules R281 to R284) -/

/-- A refill is possible or in progress. -/
def refillOpen (s : State) : Bool := s.refillStartEnabled || s.fillBusy

/-- The step from `s` to `s'` was a RefillDone, or a RefillStart that cut the run off for silence. -/
def refillEnds (s s' : State) : Bool := (s.fillBusy && !s'.fillBusy) || (!s.lastw && s'.lastw)

/-- The sample ticks counted since the open refill became possible, after the step from `s` to `s'`. Rule R282
does not say what becomes of the count where a STOP or a reset withdraws an enabled RefillStart before it is taken;
here no tick is counted while nothing is open, and the count goes on at the next START (DESIGN CHOICE, log 26). -/
def ticksWaited (n : Nat) (s s' : State) : Nat :=
  if refillEnds s s' then 0 else if refillOpen s && s'.dutyStrobe then n + 1 else n

/-- The premise of rule R282 on one run: between a state in which RefillStart is enabled and the next RefillDone
(or silence cut-off) at most `bound` SampleTick steps occur. `n` ticks have been counted before the run. -/
def timely (bound : Nat) : Nat → List Turn → State → Prop
  | _, [], _ => True
  | n, t :: ts, s =>
    match step (present t s) with
    | .next s' => ticksWaited n s s' ≤ bound ∧ timely bound (ticksWaited n s s') ts s'
    | .fault _ => True
    | .refused _ => True

/-- No step of the run is an underrun tick (rule R207). -/
def underrunFree : List Turn → State → Prop
  | [], _ => True
  | t :: ts, s =>
    match step (present t s) with
    | .next s' => s'.evUnderrun = false ∧ underrunFree ts s'
    | .fault _ => True
    | .refused _ => True

/-- A turn that neither stops the run, nor resets the block, nor leaves the event model (rule R284). -/
def keepsPlaying : Turn → Bool
  | .command w => decide (decode w ≠ .stop) && decide (decode w ≠ .mode 0)
  | .refill => true
  | .sampleTick => true
  | .pwmCycle => true
  | .rstEdge _ => false

end Sys2Proof.Safety
end

