-- ==== Sys2Proof/Certificates/Slice0/Obligations.lean ====
section
/-! DEFINITION. The statements for the provers. A statement about one command says that `exec` answers a next
state, what it holds, and that everything else is as before, written as an equation of states. -/

open Sys2Proof Sys2Proof.Machine Sys2Proof.Safety

/-! ## Encoding -/

/-- Words written out from rules R81, R85, R90 and the vectors of 95_test_vectors.md decode to their commands. -/
def Obligations.DecodesTheWrittenOutWords : Prop :=
  decode 0x00000000#32 = .nop ∧ decode 0x0ABCDEF1#32 = .nop ∧ decode 0x10006A9A#32 = .vfreq 0 27290 ∧
  decode 0x12000005#32 = .vfreq 2 5 ∧ decode 0x2F00FFFE#32 = .fxset 2 ∧ decode 0x30000000#32 = .start ∧
  decode 0x40000000#32 = .stop ∧ decode 0x50000000#32 = .poll ∧ decode 0x60FFFFFE#32 = .mode 0 ∧
  decode 0x60000001#32 = .mode 1 ∧ decode 0x70000000#32 = .rdstat ∧ decode 0x80000001#32 = .clrerr 1 ∧
  decode 0x90000000#32 = .reserved9 ∧ decode 0xF1234567#32 = .reservedF

/-- Rules R81, R82, R84, R85: decoding the word of a well-formed instruction gives the instruction back. -/
def Obligations.EncodedInstructionsDecodeBack : Prop :=
  ∀ i : Instr, i.wellFormed = true → decode (encode i) = i

/-- Rule R85: the opcode map, row by row: which words are which command. -/
def Obligations.OpcodeMapSelectsByMaskAndMatch : Prop :=
  ∀ w : Word32,
    (w &&& 0xF0000000#32 = 0x00000000#32 ↔ decode w = .nop) ∧
    (w &&& 0xF0000000#32 = 0x10000000#32 ↔ ∃ ch freq, decode w = .vfreq ch freq) ∧
    (w &&& 0xF0000000#32 = 0x20000000#32 ↔ ∃ flags, decode w = .fxset flags) ∧
    (w &&& 0xF0000000#32 = 0x30000000#32 ↔ decode w = .start) ∧
    (w &&& 0xF0000000#32 = 0x40000000#32 ↔ decode w = .stop) ∧
    (w &&& 0xF0000000#32 = 0x50000000#32 ↔ decode w = .poll) ∧
    (w &&& 0xF0000000#32 = 0x60000000#32 ↔ ∃ auto, decode w = .mode auto) ∧
    (w &&& 0xF0000000#32 = 0x70000000#32 ↔ decode w = .rdstat) ∧
    (w &&& 0xF0000000#32 = 0x80000000#32 ↔ ∃ mask, decode w = .clrerr mask) ∧
    (w &&& 0xF0000000#32 = 0x90000000#32 ↔ decode w = .reserved9) ∧
    (w &&& 0xF0000000#32 = 0xA0000000#32 ↔ decode w = .reservedA) ∧
    (w &&& 0xF0000000#32 = 0xB0000000#32 ↔ decode w = .reservedB) ∧
    (w &&& 0xF0000000#32 = 0xC0000000#32 ↔ decode w = .reservedC) ∧
    (w &&& 0xF0000000#32 = 0xD0000000#32 ↔ decode w = .reservedD) ∧
    (w &&& 0xF0000000#32 = 0xE0000000#32 ↔ decode w = .reservedE) ∧
    (w &&& 0xF0000000#32 = 0xF0000000#32 ↔ decode w = .reservedF)

/-- Rules R82, R87: encoding a decoded word keeps exactly the bits its format gives a meaning and clears the
ignored ones. -/
def Obligations.EncodingKeepsTheMeaningfulBits : Prop :=
  ∀ w : Word32, encode (decode w) = meaningfulBits w

/-! ## Steps and turns -/

/-- Rule R83: a word presented at a ready port is decoded and the whole command performed in one step, in the
state in which the turn is used up, the last step's pulses are over and the free values' counter has moved on.
`State.withFetchWord` puts a word where the next step takes it (log 2). -/
def Obligations.StepRunsThePresentedCommand : Prop :=
  (∀ (s : State) (w : Word32) (rest : List Turn), s.turns = .command w :: rest → s.cmdReady = true →
    step s = exec (decode w) { s with turns := rest, freeCtr := s.freeCtr + 1, out := Pulses.none }) ∧
  (∀ s : State, s.cmdReady = true ↔ s.rst = false) ∧
  (∀ (s : State) (w : Word32),
    step (s.withFetchWord 32 w.toNat) =
      exec (decode w) { s with freeCtr := s.freeCtr + 1, out := Pulses.none, rst := false })

/-- Out of reset a turn of an engine is that engine's step. Which steps there are is rules R12, R169, R200 and R214;
that a step is a turn taken from a list is the model's choice (log 2), and so is that a sample-tick turn is
`periodBoundary`, SampleTick with the rest of the sample period (log 12). -/
def Obligations.TurnsRunTheirAgents : Prop :=
  ∀ s u : State, s.rst = false → u = { s with freeCtr := s.freeCtr + 1, out := Pulses.none } →
    step (present .refill s) = refillTurn u ∧
    step (present .sampleTick s) = periodBoundary u ∧
    step (present .pwmCycle s) = pwmCycle u

/-- The model's own convention (log 2): running the machine on a state that lists turns is taking those turns
in order. -/
def Obligations.ListedTurnsRunInOrder : Prop :=
  ∀ (ts : List Turn) (s : State),
    Host.Core.run Sys2Proof.core ts.length { s with turns := ts ++ s.turns } = runTurns ts s

/-- Rule R270 as the model reads it (log 11): while `rst = 1` the port is not ready and no turn but a clock edge
with `rst` changes anything. -/
def Obligations.NothingIsTakenWhileInReset : Prop :=
  ∀ (s : State) (u : Turn), s.rst = true → (∀ level, u ≠ .rstEdge level) →
    s.cmdReady = false ∧
    step (present u s) = .next { s with freeCtr := s.freeCtr + 1, out := Pulses.none }

/-! ## Commands -/

/-- Rule R225: NOP, and every word whose opcode is 0, changes nothing. -/
def Obligations.NopChangesNothing : Prop :=
  ∀ s : State, exec .nop s = .next s ∧ ∀ w : Word32, opField w = 0 → exec (decode w) s = .next s

/-- Rule R118: VFREQ for a voice that exists writes that voice's pending word and may set FREQ_SAT; for one that
does not exist it sets CMDERR and nothing else. The first clause is its encoding. -/
def Obligations.VfreqWritesOnlyItsPendingWord : Prop :=
  (∀ (ch : BitVec 4) (freq : FreqWord),
    decode (0x10000000#32 ||| ch.zeroExtend 32 <<< 24 ||| freq.zeroExtend 32) = .vfreq ch freq) ∧
  ∀ (ch : BitVec 4) (freq : FreqWord) (s : State), s.voices.length = s.cfg.nch →
    (ch.toNat < s.cfg.nch →
      ∃ t, exec (.vfreq ch freq) s = .next t ∧
        t.vfreqAt ch.toNat = some freq ∧
        (∀ k, k ≠ ch.toNat → t.voices[k]? = s.voices[k]?) ∧
        (t.voices.map fun v => (v.vstep, v.vact, v.phase)) =
          (s.voices.map fun v => (v.vstep, v.vact, v.phase)) ∧
        (t.freqSat = true ↔ s.freqSat = true ∨
          s.cfg.l * 2 ^ s.cfg.fw ≤ s.cfg.l * freq.toNat * 2 ^ s.cfg.fw / (s.cfg.fs * 2 ^ s.cfg.fq)) ∧
        { t with voices := s.voices, freqSat := s.freqSat } = s) ∧
    (s.cfg.nch ≤ ch.toNat →
      ∃ t, exec (.vfreq ch freq) s = .next t ∧ t.cmdErr = true ∧ { t with cmdErr := s.cmdErr } = s)

/-- Rule R136: FXSET sets both pending effect flags and nothing else. -/
def Obligations.FxsetSetsBothPendingFlags : Prop :=
  ∀ (flags : BitVec 2) (s : State),
    decode (0x20000000#32 ||| flags.zeroExtend 32) = .fxset flags ∧
    ∃ t, exec (.fxset flags) s = .next t ∧ t.fx = flags ∧ { t with fx := s.fx } = s

/-- Rule R162: START starts from idle, is refused where `CFGERR = 1` and is ignored elsewhere. -/
def Obligations.StartOnlyFromIdle : Prop :=
  decode 0x30000000#32 = .start ∧
  ∀ s : State,
    (s.cfg.cfgErr = true →
      ∃ t, exec .start s = .next t ∧ t.cmdErr = true ∧ { t with cmdErr := s.cmdErr } = s) ∧
    (s.cfg.cfgErr = false → s.sst = .idle →
      ∃ t, exec .start s = .next t ∧ t.sst = .run ∧ t.pst = .prime ∧
        (s.cfg.nbuf = 1 → t.rq = [.b0]) ∧ (s.cfg.nbuf = 2 → t.rq = [.b0, .b1]) ∧
        t.pq = [] ∧ t.silCnt = 0 ∧ t.lastw = false ∧ t.pollPend = true ∧ t.rdIdx = 0 ∧
        { t with
          sst := s.sst, pst := s.pst, rq := s.rq, pq := s.pq, silCnt := s.silCnt, lastw := s.lastw,
          pollPend := s.pollPend, rdIdx := s.rdIdx } = s) ∧
    (s.cfg.cfgErr = false → s.sst ≠ .idle → exec .start s = .next s)

/-- Rules R164, R165: STOP ends playback at once, drops every buffer but one being filled, and waits for that
refill; outside `S_RUN` it does nothing. -/
def Obligations.StopEndsPlaybackAtOnce : Prop :=
  decode 0x40000000#32 = .stop ∧
  ∀ s : State,
    (s.sst = .run →
      ∃ t, exec .stop s = .next t ∧ t.rq = [] ∧ t.pq = [] ∧ t.lastw = false ∧ t.pollPend = false ∧
        t.pst = .off ∧
        (∀ b, t.bst.get b =
          if s.cfg.hasBuf b = true ∧ ¬(s.fillBusy = true ∧ s.fillBuf = b) then .empty else s.bst.get b) ∧
        t.sst = (if s.fillBusy then .stopping else .idle) ∧
        { t with
          rq := s.rq, pq := s.pq, lastw := s.lastw, pollPend := s.pollPend, pst := s.pst, bst := s.bst,
          sst := s.sst } = s) ∧
    (s.sst ≠ .run → exec .stop s = .next s)

/-- Rule R166: POLL is remembered exactly when a refill request waits. -/
def Obligations.PollIsRememberedForAWaitingRequest : Prop :=
  decode 0x50000000#32 = .poll ∧
  ∀ s : State,
    (s.sst = .run → s.rq ≠ [] →
      ∃ t, exec .poll s = .next t ∧ t.pollPend = true ∧ { t with pollPend := s.pollPend } = s) ∧
    (s.sst ≠ .run ∨ s.rq = [] → exec .poll s = .next s)

/-- Rule R168: MODE sets `CTRL.AUTO` in idle and is refused elsewhere. -/
def Obligations.ModeOnlyWhileIdle : Prop :=
  ∀ (auto : BitVec 1) (s : State),
    decode (0x60000000#32 ||| auto.zeroExtend 32) = .mode auto ∧
    (s.sst = .idle →
      ∃ t, exec (.mode auto) s = .next t ∧ (t.auto = true ↔ auto = 1) ∧ { t with auto := s.auto } = s) ∧
    (s.sst ≠ .idle →
      ∃ t, exec (.mode auto) s = .next t ∧ t.cmdErr = true ∧ { t with cmdErr := s.cmdErr } = s)

/-- Rule R226: RDSTAT answers the status word of the state before the step and changes nothing else. -/
def Obligations.RdstatAnswersTheStatusWord : Prop :=
  decode 0x70000000#32 = .rdstat ∧
  ∀ s : State,
    ∃ t, exec .rdstat s = .next t ∧ t.rspValid = true ∧ t.rspWord = s.status ∧
      { t.out with rsp := s.out.rsp } = s.out ∧ { t with out := s.out } = s

/-- Rule R45: the status word as a sum of its fields, each in its place; the top byte is zero. -/
def Obligations.StatusWordLayout : Prop :=
  ∀ s : State, s.silCnt < 16 → s.rq.length < 4 → s.pq.length < 4 →
    s.status.toNat =
      s.underrun.toNat + 2 * s.freqSat.toNat + 4 * s.cmdErr.toNat + 8 * s.cfg.cfgErr.toNat +
      16 * (match s.sst with | .idle => 0 | .run => 1 | .stopping => 2) +
      64 * (match s.pst with | .off => 0 | .prime => 1 | .play => 2 | .wait => 3) +
      256 * s.playBuf.idx + 512 * s.fillBusy.toNat + 1024 * s.fillBuf.idx + 2048 * s.lastw.toNat +
      4096 * (s.fx.getLsbD 0).toNat + 8192 * (s.fx.getLsbD 1).toNat + 16384 * s.auto.toNat +
      32768 * s.pollPend.toNat + 65536 * s.rq.length + 262144 * s.pq.length + 1048576 * s.silCnt

/-- Rule R227: CLRERR clears exactly the flags its mask selects. -/
def Obligations.ClrerrClearsTheSelectedFlags : Prop :=
  ∀ (mask : BitVec 3) (s : State),
    decode (0x80000000#32 ||| mask.zeroExtend 32) = .clrerr mask ∧
    ∃ t, exec (.clrerr mask) s = .next t ∧
      t.underrun = (s.underrun && !mask.getLsbD 0) ∧ t.freqSat = (s.freqSat && !mask.getLsbD 1) ∧
      t.cmdErr = (s.cmdErr && !mask.getLsbD 2) ∧
      { t with underrun := s.underrun, freqSat := s.freqSat, cmdErr := s.cmdErr } = s

/-- Rule R228: a word with a reserved opcode, whatever its other fields, sets CMDERR and does nothing else. -/
def Obligations.ReservedOpcodesOnlyRaiseCmderr : Prop :=
  (∀ (i : Instr) (s : State),
    i = .reserved9 ∨ i = .reservedA ∨ i = .reservedB ∨ i = .reservedC ∨ i = .reservedD ∨ i = .reservedE ∨
      i = .reservedF →
    ∃ t, exec i s = .next t ∧ t.cmdErr = true ∧ { t with cmdErr := s.cmdErr } = s) ∧
  (∀ (w : Word32) (s : State), 9 ≤ (opField w).toNat →
    ∃ t, exec (decode w) s = .next t ∧ t.cmdErr = true ∧ { t with cmdErr := s.cmdErr } = s)

/-- Rule R246: raising an error sets its sticky flag and, for UNDERRUN, pulses `ev_underrun`; that is all, and a
flag already set stays set. -/
def Obligations.RaiseSetsItsFlagAndNothingElse : Prop :=
  ∀ s : State,
    ((s.raise .underrun).underrun = true ∧ (s.raise .underrun).evUnderrun = true ∧
      { (s.raise .underrun).out with underrun := s.out.underrun } = s.out ∧
      { s.raise .underrun with underrun := s.underrun, out := s.out } = s) ∧
    ((s.raise .freqSat).freqSat = true ∧ { s.raise .freqSat with freqSat := s.freqSat } = s) ∧
    ((s.raise .cmdErr).cmdErr = true ∧ { s.raise .cmdErr with cmdErr := s.cmdErr } = s)

/-- Rules R83, R176: every command completes, in every state, and none touches what a refill in progress uses,
nor the duty register, the buffers' words or the pulse-width stage. -/
def Obligations.CommandsNeverTouchARefill : Prop :=
  ∀ (i : Instr) (s : State),
    ∃ t, exec i s = .next t ∧
      (t.voices.map fun v => (v.vstep, v.vact, v.phase)) =
        (s.voices.map fun v => (v.vstep, v.vact, v.phase)) ∧
      (s.fillBusy = true → t.bst.get s.fillBuf = s.bst.get s.fillBuf) ∧
      { t.out with rsp := s.out.rsp } = s.out ∧
      { t with
        voices := s.voices, fx := s.fx, auto := s.auto, rdIdx := s.rdIdx, sst := s.sst, pst := s.pst,
        bst := s.bst, rq := s.rq, pq := s.pq, lastw := s.lastw, silCnt := s.silCnt, pollPend := s.pollPend,
        underrun := s.underrun, freqSat := s.freqSat, cmdErr := s.cmdErr, out := s.out } = s

/-- Rule R245: CMDERR has exactly four causes, a refused command changes nothing but the flag, and the commands
the rule calls no errors do nothing. The first clause is that ignored fields have no effect. -/
def Obligations.CmderrHasFourCauses : Prop :=
  (∀ w : Word32, decode (meaningfulBits w) = decode w) ∧
  ∀ (i : Instr) (s : State), s.cmdErr = false →
    ∃ t, exec i s = .next t ∧
      (t.cmdErr = true ↔
        9 ≤ i.opcode.toNat ∨ (∃ ch freq, i = .vfreq ch freq ∧ s.cfg.nch ≤ ch.toNat) ∨
        (∃ auto, i = .mode auto ∧ s.sst ≠ .idle) ∨ (i = .start ∧ s.cfg.cfgErr = true)) ∧
      (t.cmdErr = true → { t with cmdErr := false } = s) ∧
      (i = .start ∧ s.cfg.cfgErr = false ∧ s.sst ≠ .idle → t = s) ∧
      (i = .stop ∧ s.sst = .idle → t = s) ∧
      (i = .poll ∧ s.rq = [] → t = s) ∧
      (i = .clrerr 0 → t = s)

/-- Rule R89: of all commands only RDSTAT drives `rsp_valid`, and its word is `STATUS`. -/
def Obligations.OnlyRdstatResponds : Prop :=
  ∀ (i : Instr) (s : State), s.out.rsp = none →
    ∃ t, exec i s = .next t ∧ (t.rspValid = true ↔ i = .rdstat) ∧ (t.rspValid = true → t.rspWord = s.status)

/-! ## The phase accumulator and the mixer -/

/-- Rules R117, R119: for an instance of the block the raw step reaches `PHMOD` exactly at frequencies of at
least the sample rate; the step saturates there and is the floored quotient below. -/
def Obligations.StepSaturatesAtTheSampleRate : Prop :=
  ∀ (c : Config) (f : Nat), c.instanceOk = true →
    (c.phmod ≤ stepRaw c f ↔ c.fs * 2 ^ c.fq ≤ f) ∧
    (f < c.fs * 2 ^ c.fq → stepOf c f = c.l * f * 2 ^ c.fw / (c.fs * 2 ^ c.fq)) ∧
    (c.fs * 2 ^ c.fq ≤ f → stepOf c f = c.l * 2 ^ c.fw - 1) ∧
    stepOf c f < c.phmod

/-- Rule R124: one advance is addition modulo `PHMOD`, and `k` advances with one step are `k` steps at once. -/
def Obligations.PhaseAdvanceIsTheModuloLaw : Prop :=
  ∀ (c : Config) (p s : Nat), p < c.phmod → s < c.phmod →
    phaseAdv c p s = (p + s) % c.phmod ∧
    ∀ k : Nat, (fun q => phaseAdv c q s)^[k] p = (p + k * s) % c.phmod

/-- Rule R141: the normalised sample is the nearest natural to the quotient, a tie going up, and stays within
the amplitude of one voice. -/
def Obligations.NormalisationRoundsToNearest : Prop :=
  ∀ acc n m peak : Nat, 0 < n →
    (normalise acc n = m ↔ 2 * n * m ≤ 2 * acc + n ∧ 2 * acc + n < 2 * n * m + 2 * n) ∧
    (acc ≤ n * peak → normalise acc n ≤ peak)

/-- Rule R142: voices with equal phases mix to the sample of one of them. -/
def Obligations.IdenticalVoicesMixToOne : Prop :=
  ∀ (c : Config) (vs : List Voice) (p x : Nat), (∀ v ∈ vs, v.vact = true → v.phase = p) →
    lookup c p = some x → 0 < vs.countP Voice.vact →
    mixSum c vs = some (vs.countP Voice.vact * x) ∧
    normalise (vs.countP Voice.vact * x) (vs.countP Voice.vact) = x

/-- Rule R138: with no active voice the sample is the idle value, whatever the effect flags. -/
def Obligations.SilentSampleIsTheIdleValue : Prop :=
  ∀ (s : State) (flags : BitVec 2), s.nact = 0 →
    ({ s with fxl := flags } : State).mixSample = .ok s.cfg.idleDuty

/-- Rules R137, R143 to R146, R148: the effect stage at the four settings of the flags, clamped; with both flags it
is the tremolo of the reshaped sample, and the TINY example of rule R146 tells the order. MixSample is this stage of
the normalised sum. -/
def Obligations.EffectsComposeReshapeThenTremolo : Prop :=
  (∀ (c : Config) (tph m : Nat),
    effectStage c 0 tph m = some (min m c.dutyMax) ∧
    effectStage c 1 tph m = (tremGain c tph).map (fun g => min (m * g / c.gden) c.dutyMax) ∧
    effectStage c 2 tph m = (reshape c m).map (fun r => min r c.dutyMax) ∧
    effectStage c 3 tph m =
      (reshape c m).bind fun r => (tremGain c tph).map fun g => min (r * g / c.gden) c.dutyMax) ∧
  effectStage Config.tiny 3 0 8 = some 5 ∧
  (effectStage Config.tiny 1 0 8).bind (effectStage Config.tiny 2 0) = some 7 ∧
  (∀ (s : State) (acc d : Nat), s.nact ≠ 0 → mixSum s.cfg s.voices = some acc →
    (s.mixSample = .ok d ↔ effectStage s.cfg s.fxl s.tph (normalise acc s.nact) = some d))

/-- Rule R149 with R137, R139, R148: in a state that keeps the invariants and has an active voice, MixSample
answers, and every stage is within its range. -/
def Obligations.MixStagesStayInRange : Prop :=
  ∀ s : State, Inv s → s.nact ≠ 0 →
    (∀ v ∈ s.voices, ∃ x, lookup s.cfg v.phase = some x ∧ x ≤ s.cfg.peak) ∧
    ∃ acc r y d, mixSum s.cfg s.voices = some acc ∧ acc ≤ s.nact * s.cfg.peak ∧
      s.nact * s.cfg.peak ≤ s.cfg.nch * s.cfg.peak ∧ normalise acc s.nact ≤ s.cfg.peak ∧
      applyReshape s.cfg s.fxl (normalise acc s.nact) = some r ∧
      (s.cfg.reshape = .isqrtPeak → r ≤ s.cfg.peak) ∧ applyTremolo s.cfg s.fxl s.tph r = some y ∧ y ≤ r ∧
      s.mixSample = .ok d ∧ d = min y s.cfg.dutyMax ∧ d ≤ s.cfg.dutyMax

/-- Rule R9: `isqrt(n)` is the largest natural whose square is at most `n`. -/
def Obligations.IsqrtIsTheLargestRoot : Prop :=
  ∀ n : Nat, isqrt n * isqrt n ≤ n ∧ n < (isqrt n + 1) * (isqrt n + 1)

/-- Rules R101, R111: the TINY table is the raised sine. Rules R102, R103: every raised-sine table has the range
and the fixed points that the model checks of a table taken as data (rule R105, log 8). -/
def Obligations.RaisedSineTablesPassTheChecks : Prop :=
  isRaisedSine Config.tiny ∧
  ∀ c : Config, 2 ≤ c.l → isRaisedSine c → c.romOk = true

/-- Rules R6, R7, R8: the spec's two configurations are well formed and have the derived constants it gives. That
`cfg_ok` holds of them rests on their `REFILL_TICKS_MAX`, which rule R6 leaves OPEN and the model chose (log 6). -/
def Obligations.SpecConfigurationsAreWellFormed : Prop :=
  Config.standard.ok = true ∧ Config.standard.iw = 9 ∧ Config.standard.pw = 25 ∧
  Config.standard.phmod = 32768000 ∧ Config.standard.accw = 12 ∧
  Config.tiny.ok = true ∧ Config.tiny.iw = 3 ∧ Config.tiny.pw = 7 ∧ Config.tiny.phmod = 128 ∧
  Config.tiny.accw = 5

/-! ## The refill engine -/

/-- Rule R169: at most one refill step is enabled. With none enabled the turn passes, which is the model's own
convention (log 3). -/
def Obligations.AtMostOneRefillStepIsEnabled : Prop :=
  ∀ s : State,
    ¬(s.refillStartEnabled = true ∧ s.refillSampleEnabled = true) ∧
    ¬(s.refillStartEnabled = true ∧ s.refillDoneEnabled = true) ∧
    ¬(s.refillSampleEnabled = true ∧ s.refillDoneEnabled = true) ∧
    (s.refillStartEnabled = false → s.refillSampleEnabled = false → s.refillDoneEnabled = false →
      refillTurn s = .next s)

/-- Rule R170: RefillStart takes the head of `RQ`, latches every voice and the flags, counts silence, and fills or
cuts off. `n` is the silence count after sub-step 3 and `cut` whether sub-step 4 cuts off. The frame leaves out
`refillNo`, the model's own count (log 25). -/
def Obligations.RefillStartLatchesAndFillsOrCutsOff : Prop :=
  ∀ (s : State) (k : BufId) (rest : List BufId) (n : Nat) (cut : Bool),
    s.sst = .run → s.fillBusy = false → s.rq = k :: rest → s.lastw = false →
    (s.auto = true ∨ s.pollPend = true) →
    n = (if s.voices.countP (fun v => v.vfreq != 0) = 0 then min (s.silCnt + 1) s.cfg.silenceLimit else 0) →
    (cut = true ↔ s.voices.countP (fun v => v.vfreq != 0) = 0 ∧ n = s.cfg.silenceLimit) →
    ∃ t, refillTurn s = .next t ∧
      t.voices = (s.voices.map fun v => Voice.mk v.vfreq
        (min (s.cfg.l * v.vfreq.toNat * 2 ^ s.cfg.fw / (s.cfg.fs * 2 ^ s.cfg.fq)) (s.cfg.l * 2 ^ s.cfg.fw - 1))
        (v.vfreq != 0) v.phase) ∧
      t.nact = s.voices.countP (fun v => v.vfreq != 0) ∧ t.fxl = s.fx ∧ t.silCnt = n ∧ t.pollPend = false ∧
      t.rq = (if cut then [] else rest) ∧ t.lastw = cut ∧ t.fillBusy = !cut ∧
      t.fillBuf = (if cut then s.fillBuf else k) ∧ t.wrIdx = (if cut then s.wrIdx else 0) ∧
      (∀ b, t.bst.get b = if cut = false ∧ b = k then .filling else s.bst.get b) ∧
      { t with
        voices := s.voices, nact := s.nact, fxl := s.fxl, silCnt := s.silCnt, pollPend := s.pollPend,
        rq := s.rq, lastw := s.lastw, fillBusy := s.fillBusy, fillBuf := s.fillBuf, wrIdx := s.wrIdx,
        bst := s.bst, refillNo := s.refillNo } = s

/-- Rules R175, R62: RefillSample writes the sample MixSample gives at `FILL_BUF`, `WR_IDX`, advances the active voices
and the tremolo phase, and changes nothing else. The frame leaves out `wordRefill`, the model's own numbering of the
words (log 25). -/
def Obligations.RefillSampleWritesOneWordAndAdvances : Prop :=
  ∀ s : State, Inv s → s.fillBusy = true → s.wrIdx < s.cfg.b →
    ∃ d t, s.mixSample = .ok d ∧ refillTurn s = .next t ∧
      t.wordAt s.fillBuf s.wrIdx = d ∧
      (∀ b i, b ≠ s.fillBuf ∨ i ≠ s.wrIdx → t.wordAt b i = s.wordAt b i) ∧
      t.voices = (s.voices.map fun v => if v.vact = true then
        { v with phase := (v.phase + v.vstep) % (s.cfg.l * 2 ^ s.cfg.fw) } else v) ∧
      t.tph = (s.tph + s.cfg.tstep) % s.cfg.tmod ∧ t.wrIdx = s.wrIdx + 1 ∧
      { t with
        obuf := s.obuf, voices := s.voices, tph := s.tph, wrIdx := s.wrIdx, wordRefill := s.wordRefill } = s

/-- Rule R178: RefillDone hands a filled buffer to `PQ` while running and discards it after a STOP. -/
def Obligations.RefillDoneHandsOverOrDiscards : Prop :=
  ∀ s : State, s.fillBusy = true → s.wrIdx = s.cfg.b →
    ∃ t, refillTurn s = .next t ∧ t.fillBusy = false ∧
      t.bst = s.bst.set s.fillBuf (if s.sst = .run then .ready else .empty) ∧
      t.pq = (if s.sst = .run then s.pq ++ [s.fillBuf] else s.pq) ∧
      t.sst = (if s.sst = .run then .run else .idle) ∧
      { t with fillBusy := s.fillBusy, bst := s.bst, pq := s.pq, sst := s.sst } = s

/-- Rules R124, R126, R130, R147, R176 together: a whole refill of `B + 2` steps with one sounding voice and no
effect fills the buffer with the table read along that voice's phase, and leaves every phase and the tremolo phase
where the next refill goes on from. -/
def Obligations.OneVoiceRefillReadsTheTable : Prop :=
  ∀ (s : State) (k : BufId) (rest : List BufId) (ch : Nat) (v : Voice),
    Inv s → s.rst = false → s.refillStartEnabled = true → s.rq = k :: rest → s.fx = 0 →
    s.voices[ch]? = some v → v.vfreq ≠ 0 →
    (∀ j u, j ≠ ch → s.voices[j]? = some u → u.vfreq = 0) →
    ∃ t, runTurns (List.replicate (s.cfg.b + 2) Turn.refill) s = .next t ∧
      t.pq = s.pq ++ [k] ∧ t.rq = rest ∧ t.bst.get k = .ready ∧ t.fillBusy = false ∧ t.duty = s.duty ∧
      (∀ i < s.cfg.b, romRead s.cfg
        ((v.phase + i * stepOf s.cfg v.vfreq.toNat) % (s.cfg.l * 2 ^ s.cfg.fw) / 2 ^ s.cfg.fw) =
          some (t.wordAt k i)) ∧
      (t.voices[ch]?.map Voice.phase =
        some ((v.phase + s.cfg.b * stepOf s.cfg v.vfreq.toNat) % (s.cfg.l * 2 ^ s.cfg.fw))) ∧
      (∀ j, j ≠ ch → t.voices[j]?.map Voice.phase = s.voices[j]?.map Voice.phase) ∧
      t.tph = (s.tph + s.cfg.b * s.cfg.tstep) % s.cfg.tmod

/-! ## Playback -/

/-- Rules R203, R204: a tick while playing emits the next word, and the tick of the last word drains the
buffer. -/
def Obligations.PlayingTickEmitsAndDrains : Prop :=
  ∀ s : State, s.pst = .play → s.cfg.hasBuf s.playBuf = true → s.rdIdx < s.cfg.b →
    ∃ t, sampleTick s = .next t ∧ t.duty = s.wordAt s.playBuf s.rdIdx ∧ t.dutyStrobe = true ∧
      { t.out with drained := s.out.drained, dutyStrobe := s.out.dutyStrobe } = s.out ∧
      (s.rdIdx + 1 < s.cfg.b → t.rdIdx = s.rdIdx + 1 ∧ t.out.drained = s.out.drained ∧
        { t with duty := s.duty, rdIdx := s.rdIdx, out := s.out } = s) ∧
      (s.rdIdx + 1 = s.cfg.b → t.rdIdx = 0 ∧ t.pst = .wait ∧ t.bst = s.bst.set s.playBuf .empty ∧
        t.out.drained = some s.playBuf ∧ t.rq = (if s.lastw then s.rq else s.rq ++ [s.playBuf]) ∧
        { t with duty := s.duty, rdIdx := s.rdIdx, pst := s.pst, bst := s.bst, rq := s.rq, out := s.out } = s)

/-- Rule R202: at a tick that needs a first sample, a waiting filled buffer is taken and its word 0 emitted in the
same tick. -/
def Obligations.HandOffLosesNoTick : Prop :=
  ∀ (s : State) (b : BufId) (rest : List BufId), s.pst = .prime ∨ s.pst = .wait → s.pq = b :: rest →
    s.cfg.hasBuf b = true → 0 < s.cfg.b →
    ∃ t, sampleTick s = .next t ∧ t.duty = s.wordAt b 0 ∧ t.dutyStrobe = true ∧ t.pq = rest ∧ t.playBuf = b ∧
      (1 < s.cfg.b → t.pst = .play ∧ t.rdIdx = 1 ∧ t.bst = s.bst.set b .playing ∧ t.rq = s.rq ∧
        t.out.drained = s.out.drained) ∧
      (s.cfg.b = 1 → t.pst = .wait ∧ t.rdIdx = 0 ∧ t.bst = s.bst.set b .empty ∧ t.out.drained = some b ∧
        t.rq = (if s.lastw then s.rq else s.rq ++ [b])) ∧
      { t.out with drained := s.out.drained, dutyStrobe := s.out.dutyStrobe } = s.out ∧
      { t with
        duty := s.duty, pq := s.pq, playBuf := s.playBuf, pst := s.pst, rdIdx := s.rdIdx, bst := s.bst,
        rq := s.rq, out := s.out } = s

/-- Rule R205: a tick in `P_OFF`, or in `P_PRIME` before the first window is ready, emits the idle value; it is no
underrun. -/
def Obligations.NotPlayingEmitsTheIdleValue : Prop :=
  ∀ s : State, s.pst = .off ∨ (s.pst = .prime ∧ s.pq = [] ∧ s.lastw = false) →
    ∃ t, sampleTick s = .next t ∧ t.duty = s.cfg.idleDuty ∧ t.dutyStrobe = true ∧
      { t.out with dutyStrobe := s.out.dutyStrobe } = s.out ∧ { t with duty := s.duty, out := s.out } = s

/-- Rule R206: in the last window the first tick that finds nothing to play returns the block to idle with the
idle value, with no flag and no event; the block is then as invariant I3 says. -/
def Obligations.EndOfLastWindowReturnsToIdle : Prop :=
  ∀ s : State, s.pst = .prime ∨ s.pst = .wait → s.pq = [] → s.lastw = true →
    ∃ t, sampleTick s = .next t ∧ t.sst = .idle ∧ t.pst = .off ∧ t.lastw = false ∧ t.duty = s.cfg.idleDuty ∧
      (Inv s → t.fillBusy = false ∧ t.rq = [] ∧ t.pq = [] ∧ t.pollPend = false ∧ ∀ b, t.bst.get b = .empty) ∧
      { t.out with dutyStrobe := s.out.dutyStrobe } = s.out ∧
      { t with sst := s.sst, pst := s.pst, lastw := s.lastw, duty := s.duty, out := s.out } = s

/-- Rule R207: an underrun tick sets the flag, pulses the event, and holds the duty value; nothing else
changes. -/
def Obligations.UnderrunTickHoldsTheDuty : Prop :=
  ∀ s : State, s.pst = .wait → s.pq = [] → s.lastw = false → s.cfg.nbuf = 2 →
    ∃ t, sampleTick s = .next t ∧ t.underrun = true ∧ t.evUnderrun = true ∧ t.dutyStrobe = true ∧
      t.duty = s.duty ∧
      { t.out with underrun := s.out.underrun, dutyStrobe := s.out.dutyStrobe } = s.out ∧
      { t with underrun := s.underrun, out := s.out } = s

/-- Rule R209: with one buffer the same tick is a pause: the duty value holds, with no flag and no event. -/
def Obligations.SingleBufferPauseIsNoError : Prop :=
  ∀ s : State, s.pst = .wait → s.pq = [] → s.lastw = false → s.cfg.nbuf = 1 →
    ∃ t, sampleTick s = .next t ∧ t.duty = s.duty ∧ t.dutyStrobe = true ∧
      { t.out with dutyStrobe := s.out.dutyStrobe } = s.out ∧ { t with out := s.out } = s

/-- Rule R210 G4: `DUTY` changes only at a sample tick or a reset edge, and a tick leaves the value, the idle
value, or a whole word of a buffer. -/
def Obligations.DutyChangesOnlyAtATick : Prop :=
  ∀ (s t : State) (u : Turn), step (present u s) = .next t →
    (t.duty ≠ s.duty → t.dutyStrobe = true ∨ u = .rstEdge true) ∧
    (t.dutyStrobe = true → t.duty = s.duty ∨ t.duty = s.cfg.idleDuty ∨
      ∃ b i, s.cfg.hasBuf b = true ∧ i < s.cfg.b ∧ t.duty = s.wordAt b i)

/-- Rule R64: in a state that keeps the invariants, no step writes a word of a buffer that is not being filled, no
tick reads a word of one that is not being played, and no buffer is both. -/
def Obligations.NoTornBuffer : Prop :=
  ∀ (s t : State) (u : Turn), Inv s → step (present u s) = .next t →
    (∀ b i, u ≠ .rstEdge true → t.wordAt b i ≠ s.wordAt b i →
      s.bst.get b = .filling ∧ u = .refill ∧ b = s.fillBuf ∧ i = s.wrIdx) ∧
    (t.dutyStrobe = true → s.acquire.pst = .play →
      s.acquire.bst.get s.acquire.playBuf = .playing ∧
      t.duty = s.wordAt s.acquire.playBuf s.acquire.rdIdx) ∧
    (s.fillBusy = true → s.pst = .play → s.fillBuf ≠ s.playBuf)

/-- Rules R72, R202, R208, R210 G2 and G3: the samples computed and not yet heard form a queue. Unless the run is
stopped or reset, a step appends the sample RefillSample computed, or takes the head and makes it `DUTY`, or leaves
the queue alone with `DUTY` held or idle; a RefillSample of a running block always appends, and a tick that plays,
or finds a filled buffer waiting, always takes the head. -/
def Obligations.UnheardSamplesAreAQueue : Prop :=
  ∀ (s t : State) (u : Turn), Inv s → s.rst = false → step (present u s) = .next t →
    u ≠ .rstEdge true → isCommand .stop u = false →
    ((∃ d, u = .refill ∧ s.refillSampleEnabled = true ∧ s.mixSample = .ok d ∧ unheard t = unheard s ++ [d] ∧
        t.duty = s.duty) ∨
      (t.dutyStrobe = true ∧ unheard s = t.duty :: unheard t) ∨
      (unheard t = unheard s ∧ (t.duty = s.duty ∨ t.duty = s.cfg.idleDuty))) ∧
    (u = .refill → s.refillSampleEnabled = true → s.sst = .run →
      ∃ d, s.mixSample = .ok d ∧ unheard t = unheard s ++ [d]) ∧
    (t.dutyStrobe = true → s.pst = .play ∨ (s.pst ≠ .off ∧ s.pq ≠ []) → unheard s = t.duty :: unheard t)

/-- Rule R210 G5: after STOP the next tick gives the idle value, and while the block does not play, ticks go on
giving it. -/
def Obligations.StopSilencesWithinOneTick : Prop :=
  (∀ s : State, s.sst = .run →
    ∃ t u, exec .stop s = .next t ∧ sampleTick t = .next u ∧ u.duty = s.cfg.idleDuty) ∧
  (∀ (s t : State) (u : Turn), Inv s → s.pst = .off ∨ (s.pst = .prime ∧ s.pq = []) →
    step (present u s) = .next t →
    (t.dutyStrobe = true → t.duty = s.cfg.idleDuty) ∧ (s.duty = s.cfg.idleDuty → t.duty = s.cfg.idleDuty))

/-- Rule R284: with two buffers, in the event model, under the premise of rule R282 and the condition of rule
R283, no sample tick from idle until the next STOP or reset is an underrun. -/
def Obligations.NoUnderrunUnderTheDeadline : Prop :=
  ∀ (ts : List Turn) (s : State), Inv s → s.sst = .idle → s.auto = true → s.rst = false → s.cfg.nbuf = 2 →
    s.cfg.refillTicksMax ≤ s.cfg.b → (∀ u ∈ ts, keepsPlaying u = true) →
    timely s.cfg.refillTicksMax 0 ts s → underrunFree ts s

/-- Rule R214: over one period of the pulse-width stage the pin is at `PWM_POL` in exactly the first `CMP`
cycles, and `CMP` and `DUTY` hold. -/
def Obligations.PwmPeriodIsHighForCmpCycles : Prop :=
  ∀ s : State, Inv s → s.rst = false → s.cnt = 0 → ∀ k < s.cfg.dutyMax,
    ∃ t, runTurns (List.replicate k Turn.pwmCycle) s = .next t ∧ t.cnt = k ∧ t.cmp = s.cmp ∧ t.duty = s.duty ∧
      (t.pwmOut = s.cfg.pwmPol ↔ k < s.cmp)

/-- The model's own reading of rules R214 and R215 (log 12): a sample-tick turn is the clock cycles left in the
sample period taken at once. -/
def Obligations.SampleTickTurnIsTheRestOfThePeriod : Prop :=
  ∀ s : State, Inv s → s.rst = false →
    ∃ u v, runTurns (List.replicate (s.cfg.dutyMax - s.cnt) Turn.pwmCycle) s = .next u ∧
      step (present .sampleTick s) = .next v ∧ { u with freeCtr := v.freeCtr } = v

/-! ## The whole machine -/

/-- Rules R46, R48: the state after reset keeps the invariants, for every instance of the block, the default
among them. -/
def Obligations.InvariantsHoldAfterReset : Prop :=
  (∀ c : Config, c.instanceOk = true → Inv (State.resetOf c)) ∧ Inv State.reset

/-- Rule R46: every step keeps the invariants. -/
def Obligations.EveryStepKeepsTheInvariants : Prop :=
  ∀ s t : State, Inv s → step s = .next t → Inv t

/-- Rule R247 and 93 section 3: in a state that keeps the invariants every step, of any agent, completes. -/
def Obligations.NoStepFaults : Prop :=
  ∀ s : State, Inv s → ∃ t, step s = .next t

/-- Rules R23, R125, R274: a phase changes only by the advance of RefillSample for its own active voice, or by a
reset edge; the tremolo phase only by RefillSample or a reset edge. -/
def Obligations.OnlyARefillMovesThePhases : Prop :=
  ∀ (s t : State) (u : Turn), Inv s → step (present u s) = .next t → u ≠ .rstEdge true →
    (∀ (ch : Nat) (v w : Voice), s.voices[ch]? = some v → t.voices[ch]? = some w → w.phase ≠ v.phase →
      u = .refill ∧ s.refillSampleEnabled = true ∧ v.vact = true ∧
      w.phase = (v.phase + v.vstep) % (s.cfg.l * 2 ^ s.cfg.fw)) ∧
    (t.tph ≠ s.tph → u = .refill ∧ s.refillSampleEnabled = true)

/-- Rule R179: `SST` and `PST` change exactly as the transition table says. -/
def Obligations.ModesFollowTheTransitionTable : Prop :=
  ∀ (s t : State) (u : Turn), Inv s → step (present u s) = .next t → (t.sst, t.pst) = nextModes u s

/-- Rules R49, R73, R135: two states that differ only in the pending registers take every turn alike, with the
same outputs, but for a RefillStart, which latches them, and RDSTAT, whose word shows `FX` at once in bits 13:12
(rules R28, R45) and is otherwise the same. -/
def Obligations.PendingWritesWaitForARefillStart : Prop :=
  (∀ (s₁ s₂ t₁ : State) (u : Turn), samePending s₁ s₂ → isCommand .rdstat u = false →
    (u = .refill → s₁.refillStartEnabled = false) → step (present u s₁) = .next t₁ →
    ∃ t₂, step (present u s₂) = .next t₂ ∧ samePending t₁ t₂ ∧ observed t₁ = observed t₂) ∧
  (∀ (s₁ s₂ : State) (u : Turn), samePending s₁ s₂ → isCommand .rdstat u = true →
    ∃ t₁ t₂, step (present u s₁) = .next t₁ ∧ step (present u s₂) = .next t₂ ∧
      samePending { t₁ with out := t₂.out } t₂ ∧ t₁.rspValid = t₂.rspValid ∧
      t₁.rspWord &&& 0xFFFFCFFF#32 = t₂.rspWord &&& 0xFFFFCFFF#32)

/-- Rules R48, R270: a clock edge with `rst = 1` gives every item of state its reset value, with no output
pulse, and the next edge with `rst = 0` releases the block. -/
def Obligations.ResetEdgeGivesTheResetValues : Prop :=
  ∀ s : State,
    ∃ t u, step (present (.rstEdge true) s) = .next t ∧
      t.voices = List.replicate s.cfg.nch (Voice.mk 0 0 false 0) ∧ t.nact = 0 ∧ t.fxl = 0 ∧ t.tph = 0 ∧
      t.fx = s.cfg.fxReset ∧ t.auto = true ∧ t.wrIdx = 0 ∧ t.rdIdx = 0 ∧ t.sst = .idle ∧ t.pst = .off ∧
      (∀ b, t.bst.get b = .empty) ∧ t.rq = [] ∧ t.pq = [] ∧ t.fillBusy = false ∧ t.fillBuf = .b0 ∧
      t.playBuf = .b0 ∧ t.lastw = false ∧ t.silCnt = 0 ∧ t.pollPend = false ∧ t.duty = s.cfg.idleDuty ∧
      t.underrun = false ∧ t.freqSat = false ∧ t.cmdErr = false ∧ t.cnt = 0 ∧ t.cmp = s.cfg.idleDuty ∧
      t.cfg = s.cfg ∧ t.out = Pulses.none ∧ t.cmdReady = false ∧
      step (present (.rstEdge false) t) = .next u ∧ u.cmdReady = true ∧
      { u with rst := t.rst, freeCtr := t.freeCtr } = t

/-- Rule R271: after reset the status word shows `AUTO`, the default effect flags and CFGERR and nothing else, no
event is pending, a refill turn finds nothing to do, and a tick emits the idle value and changes nothing else of
the block. -/
def Obligations.AfterResetOnlyTheIdleValueSounds : Prop :=
  ∀ c : Config,
    (State.resetOf c).status.toNat = 0x4000 + 4096 * c.fxReset.toNat + 8 * c.cfgErr.toNat ∧
    (State.resetOf c).out = Pulses.none ∧
    refillTurn (State.resetOf c) = .next (State.resetOf c) ∧
    sampleTick (State.resetOf c) =
      .next { State.resetOf c with out := { Pulses.none with dutyStrobe := true } }

/-- Rule R252, its two examples: a drain and a RefillStart in one cycle, where the refill takes the buffer just
drained; a RefillDone and a STOP in one cycle, after which the block is idle. -/
def Obligations.SameCycleOrderExamples : Prop :=
  (∀ s : State, s.rst = false → s.sst = .run → s.pst = .play → s.cfg.hasBuf s.playBuf = true →
    s.rdIdx + 1 = s.cfg.b → s.rq = [] → s.fillBusy = false → s.lastw = false → s.auto = true →
    (∃ v ∈ s.voices, v.vfreq ≠ 0) →
    ∃ t, runTurns (sameCycle true true none) s = .next t ∧ t.fillBusy = true ∧ t.fillBuf = s.playBuf ∧
      t.bst.get s.playBuf = .filling ∧ t.rq = []) ∧
  (∀ (s : State) (w : Word32), s.rst = false → s.sst = .run → s.refillDoneEnabled = true →
    decode w = .stop →
    ∃ t, runTurns (sameCycle false true (some w)) s = .next t ∧ t.sst = .idle ∧ t.pst = .off ∧ t.pq = [])
end

