-- ==== Sys2Proof/Laws/Checks.lean ====
section
/-! SUPPORT. Boolean forms of `Inv` and `timely` with the lemma that each implies the statement it stands for, so
that a concrete state or run can be shown to meet them by evaluation. -/

namespace Sys2Proof.Safety

open Sys2Proof Sys2Proof.Machine

/-- A property of both buffers, checked. -/
def bothBufs (p : BufId → Bool) : Bool := p .b0 && p .b1

theorem bothBufs_iff (p : BufId → Bool) : bothBufs p = true ↔ ∀ b, p b = true := by
  constructor
  · intro h b
    simp only [bothBufs, Bool.and_eq_true] at h
    cases b
    · exact h.1
    · exact h.2
  · intro h
    simp [bothBufs, h]

/-- `holdsDuty`, checked. -/
def holdsDutyCheck (s : State) (b : BufId) (i : Nat) : Bool :=
  match memGet (s.obuf.get b) i with
  | some v => decide (v ≤ s.cfg.dutyMax) && decide (memGet (s.wordRefill.get b) i = some (s.refillNo.get b))
  | none => false

theorem holdsDuty_of_check {s : State} {b : BufId} {i : Nat} (h : holdsDutyCheck s b i = true) :
    holdsDuty s b i := by
  unfold holdsDutyCheck at h
  split at h
  · next v hv => simp only [Bool.and_eq_true, decide_eq_true_eq] at h; exact ⟨⟨v, hv, h.1⟩, h.2⟩
  · cases h

/-- The clauses of `Inv` about the registers, checked. -/
def invRegsCheck (s : State) : Bool :=
  s.cfg.instanceOk && decide (s.voices.length = s.cfg.nch) && decide (s.nact = s.voices.countP Voice.vact) &&
  (s.voices.all fun v => decide (v.phase < s.cfg.phmod) && decide (v.vstep < s.cfg.phmod)) &&
  decide (s.tph < s.cfg.tmod) && decide (s.wrIdx ≤ s.cfg.b) && decide (s.rdIdx < s.cfg.b) &&
  decide (s.silCnt ≤ s.cfg.silenceLimit) && decide (s.duty ≤ s.cfg.dutyMax) && decide (s.cnt < s.cfg.dutyMax) &&
  decide (s.cmp ≤ s.cfg.dutyMax)

/-- The clauses of `Inv` about the modes, checked. -/
def invModesCheck (s : State) : Bool :=
  decide (s.sst = .idle → s.pst = .off ∧ s.fillBusy = false ∧ s.rq = [] ∧ s.pq = [] ∧ s.lastw = false ∧
    s.pollPend = false ∧ s.bst.b0 = .empty ∧ s.bst.b1 = .empty) &&
  decide (s.lastw = true → s.sst = .run ∧ s.fillBusy = false ∧ s.rq = [] ∧ s.pollPend = false) &&
  decide (s.sst = .stopping → s.fillBusy = true ∧ s.pst = .off ∧ s.rq = [] ∧ s.pq = [] ∧ s.lastw = false ∧
    s.pollPend = false) &&
  decide (s.pst ≠ .off → s.sst = .run) &&
  decide (s.cfg.cfgErr = true → s.sst = .idle ∧ s.duty = s.cfg.idleDuty)

/-- The clauses of `Inv` about the places of the buffers, checked. -/
def invPlacesCheck (s : State) : Bool :=
  (bothBufs fun b => decide (places s b ≤ if s.cfg.hasBuf b then 1 else 0)) &&
  (bothBufs fun b => decide (s.bst.get b = placeState s b)) &&
  (bothBufs fun b => decide (s.sst = .run → s.lastw = false → s.cfg.hasBuf b = true → places s b = 1))

/-- The clauses of `Inv` about the words of the buffers, checked. -/
def invWordsCheck (s : State) : Bool :=
  (bothBufs fun b => !(decide (s.bst.get b = .ready) || decide (s.bst.get b = .playing)) ||
    (List.range s.cfg.b).all (holdsDutyCheck s b)) &&
  (!s.fillBusy || (List.range s.wrIdx).all (holdsDutyCheck s s.fillBuf)) &&
  (bothBufs fun b => memWf (s.obuf.get b) && (memWf (s.wordRefill.get b) &&
    (s.obuf.get b).all fun e => s.obufHas b e.1 && decide (e.2 ≤ s.cfg.dutyMax)))

/-- `Inv`, checked. -/
def invCheck (s : State) : Bool := invRegsCheck s && invModesCheck s && invPlacesCheck s && invWordsCheck s

theorem inv_of_check {s : State} (h : invCheck s = true) : Inv s := by
  simp only [invCheck, invRegsCheck, invModesCheck, invPlacesCheck, invWordsCheck, Bool.and_eq_true,
    decide_eq_true_eq, bothBufs_iff, List.all_eq_true, Bool.or_eq_true, Bool.not_eq_true', List.mem_range] at h
  obtain ⟨⟨⟨⟨⟨⟨⟨⟨⟨⟨⟨⟨⟨h1, h2⟩, h3⟩, h4⟩, h5⟩, h6⟩, h7⟩, h8⟩, h9⟩, h10⟩, h11⟩, ⟨⟨⟨h12, h13⟩, h14⟩, h15⟩, h16⟩,
    ⟨h17, h18⟩, h19⟩, ⟨h20, h21⟩, h22⟩ := h
  refine ⟨h1, h2, h3, h17, h18, h4, h5, h6, h7, h8, h9, h12, h13, h14, ?_, h15, ?_, h22, ?_, h16, h10, h11⟩
  · intro b hb i hi
    rcases h20 b with hn | hall
    · simp_all
    · exact holdsDuty_of_check (hall i hi)
  · intro hf i hi
    rcases h21 with hn | hall
    · simp_all
    · exact holdsDuty_of_check (hall i hi)
  · intro hr hl b hb
    exact h19 b hr hl hb

/-- `timely`, checked. -/
def timelyCheck (bound : Nat) : Nat → List Turn → State → Bool
  | _, [], _ => true
  | n, t :: ts, s =>
    match step (present t s) with
    | .next s' => decide (ticksWaited n s s' ≤ bound) && timelyCheck bound (ticksWaited n s s') ts s'
    | .fault _ => false
    | .refused _ => false

theorem timely_of_check (bound : Nat) : ∀ (ts : List Turn) (n : Nat) (s : State),
    timelyCheck bound n ts s = true → timely bound n ts s
  | [], _, _, _ => trivial
  | t :: ts, n, s, h => by
    cases hs : step (present t s) with
    | next s' =>
      simp only [timelyCheck, hs, Bool.and_eq_true, decide_eq_true_eq] at h
      simp only [timely, hs]
      exact ⟨h.1, timely_of_check bound ts _ s' h.2⟩
    | fault r => simp [timelyCheck, hs] at h
    | refused r => simp [timelyCheck, hs] at h

end Sys2Proof.Safety
end

