-- ==== Sys2Proof/Laws/State.lean ====
section
/-! SUPPORT. One lemma per field per named update of the state, so that no proof unfolds a record update. -/

namespace Sys2Proof.Machine

open Sys2Proof

@[simp] theorem PerBuf_get_set_same {α : Type} (p : PerBuf α) (b : BufId) (x : α) : (p.set b x).get b = x := by
  cases b <;> rfl

@[simp] theorem PerBuf_get_set_ne {α : Type} (p : PerBuf α) (b c : BufId) (x : α) (h : b ≠ c) :
    (p.set b x).get c = p.get c := by
  cases b <;> cases c <;> first | rfl | exact absurd rfl h

theorem PerBuf_get_set {α : Type} (p : PerBuf α) (b c : BufId) (x : α) :
    (p.set b x).get c = if b = c then x else p.get c := by
  cases b <;> cases c <;> rfl

theorem PerBuf_ext_get {α : Type} (p q : PerBuf α) (h : ∀ b, p.get b = q.get b) : p = q := by
  cases p; cases q
  simpa [PerBuf.get] using And.intro (h .b0) (h .b1)

variable (s : State)

@[simp] theorem setWord_cfg (b : BufId) (i v : Nat) : (s.setWord b i v).cfg = s.cfg := rfl
@[simp] theorem setWord_voices (b : BufId) (i v : Nat) : (s.setWord b i v).voices = s.voices := rfl
@[simp] theorem setWord_nact (b : BufId) (i v : Nat) : (s.setWord b i v).nact = s.nact := rfl
@[simp] theorem setWord_fxl (b : BufId) (i v : Nat) : (s.setWord b i v).fxl = s.fxl := rfl
@[simp] theorem setWord_tph (b : BufId) (i v : Nat) : (s.setWord b i v).tph = s.tph := rfl
@[simp] theorem setWord_fx (b : BufId) (i v : Nat) : (s.setWord b i v).fx = s.fx := rfl
@[simp] theorem setWord_auto (b : BufId) (i v : Nat) : (s.setWord b i v).auto = s.auto := rfl
@[simp] theorem setWord_wrIdx (b : BufId) (i v : Nat) : (s.setWord b i v).wrIdx = s.wrIdx := rfl
@[simp] theorem setWord_rdIdx (b : BufId) (i v : Nat) : (s.setWord b i v).rdIdx = s.rdIdx := rfl
@[simp] theorem setWord_sst (b : BufId) (i v : Nat) : (s.setWord b i v).sst = s.sst := rfl
@[simp] theorem setWord_pst (b : BufId) (i v : Nat) : (s.setWord b i v).pst = s.pst := rfl
@[simp] theorem setWord_bst (b : BufId) (i v : Nat) : (s.setWord b i v).bst = s.bst := rfl
@[simp] theorem setWord_rq (b : BufId) (i v : Nat) : (s.setWord b i v).rq = s.rq := rfl
@[simp] theorem setWord_pq (b : BufId) (i v : Nat) : (s.setWord b i v).pq = s.pq := rfl
@[simp] theorem setWord_fillBusy (b : BufId) (i v : Nat) : (s.setWord b i v).fillBusy = s.fillBusy := rfl
@[simp] theorem setWord_fillBuf (b : BufId) (i v : Nat) : (s.setWord b i v).fillBuf = s.fillBuf := rfl
@[simp] theorem setWord_playBuf (b : BufId) (i v : Nat) : (s.setWord b i v).playBuf = s.playBuf := rfl
@[simp] theorem setWord_lastw (b : BufId) (i v : Nat) : (s.setWord b i v).lastw = s.lastw := rfl
@[simp] theorem setWord_silCnt (b : BufId) (i v : Nat) : (s.setWord b i v).silCnt = s.silCnt := rfl
@[simp] theorem setWord_pollPend (b : BufId) (i v : Nat) : (s.setWord b i v).pollPend = s.pollPend := rfl
@[simp] theorem setWord_duty (b : BufId) (i v : Nat) : (s.setWord b i v).duty = s.duty := rfl
@[simp] theorem setWord_underrun (b : BufId) (i v : Nat) : (s.setWord b i v).underrun = s.underrun := rfl
@[simp] theorem setWord_freqSat (b : BufId) (i v : Nat) : (s.setWord b i v).freqSat = s.freqSat := rfl
@[simp] theorem setWord_cmdErr (b : BufId) (i v : Nat) : (s.setWord b i v).cmdErr = s.cmdErr := rfl
@[simp] theorem setWord_obuf (b : BufId) (i v : Nat) : (s.setWord b i v).obuf = s.obuf.set b (memSet (s.obuf.get b) i v) := rfl
@[simp] theorem setWord_cnt (b : BufId) (i v : Nat) : (s.setWord b i v).cnt = s.cnt := rfl
@[simp] theorem setWord_cmp (b : BufId) (i v : Nat) : (s.setWord b i v).cmp = s.cmp := rfl
@[simp] theorem setWord_rst (b : BufId) (i v : Nat) : (s.setWord b i v).rst = s.rst := rfl
@[simp] theorem setWord_out (b : BufId) (i v : Nat) : (s.setWord b i v).out = s.out := rfl
@[simp] theorem setWord_turns (b : BufId) (i v : Nat) : (s.setWord b i v).turns = s.turns := rfl
@[simp] theorem setWord_freeCtr (b : BufId) (i v : Nat) : (s.setWord b i v).freeCtr = s.freeCtr := rfl
@[simp] theorem setWord_obufEpoch (b : BufId) (i v : Nat) : (s.setWord b i v).obufEpoch = s.obufEpoch := rfl
@[simp] theorem setWord_refillNo (b : BufId) (i v : Nat) : (s.setWord b i v).refillNo = s.refillNo := rfl
@[simp] theorem setWord_wordRefill (b : BufId) (i v : Nat) : (s.setWord b i v).wordRefill = s.wordRefill := rfl

@[simp] theorem setVfreq_cfg (ch : Nat) (f : FreqWord) : (s.setVfreq ch f).cfg = s.cfg := rfl
@[simp] theorem setVfreq_voices (ch : Nat) (f : FreqWord) : (s.setVfreq ch f).voices = s.voices.modify ch fun v => { v with vfreq := f } := rfl
@[simp] theorem setVfreq_nact (ch : Nat) (f : FreqWord) : (s.setVfreq ch f).nact = s.nact := rfl
@[simp] theorem setVfreq_fxl (ch : Nat) (f : FreqWord) : (s.setVfreq ch f).fxl = s.fxl := rfl
@[simp] theorem setVfreq_tph (ch : Nat) (f : FreqWord) : (s.setVfreq ch f).tph = s.tph := rfl
@[simp] theorem setVfreq_fx (ch : Nat) (f : FreqWord) : (s.setVfreq ch f).fx = s.fx := rfl
@[simp] theorem setVfreq_auto (ch : Nat) (f : FreqWord) : (s.setVfreq ch f).auto = s.auto := rfl
@[simp] theorem setVfreq_wrIdx (ch : Nat) (f : FreqWord) : (s.setVfreq ch f).wrIdx = s.wrIdx := rfl
@[simp] theorem setVfreq_rdIdx (ch : Nat) (f : FreqWord) : (s.setVfreq ch f).rdIdx = s.rdIdx := rfl
@[simp] theorem setVfreq_sst (ch : Nat) (f : FreqWord) : (s.setVfreq ch f).sst = s.sst := rfl
@[simp] theorem setVfreq_pst (ch : Nat) (f : FreqWord) : (s.setVfreq ch f).pst = s.pst := rfl
@[simp] theorem setVfreq_bst (ch : Nat) (f : FreqWord) : (s.setVfreq ch f).bst = s.bst := rfl
@[simp] theorem setVfreq_rq (ch : Nat) (f : FreqWord) : (s.setVfreq ch f).rq = s.rq := rfl
@[simp] theorem setVfreq_pq (ch : Nat) (f : FreqWord) : (s.setVfreq ch f).pq = s.pq := rfl
@[simp] theorem setVfreq_fillBusy (ch : Nat) (f : FreqWord) : (s.setVfreq ch f).fillBusy = s.fillBusy := rfl
@[simp] theorem setVfreq_fillBuf (ch : Nat) (f : FreqWord) : (s.setVfreq ch f).fillBuf = s.fillBuf := rfl
@[simp] theorem setVfreq_playBuf (ch : Nat) (f : FreqWord) : (s.setVfreq ch f).playBuf = s.playBuf := rfl
@[simp] theorem setVfreq_lastw (ch : Nat) (f : FreqWord) : (s.setVfreq ch f).lastw = s.lastw := rfl
@[simp] theorem setVfreq_silCnt (ch : Nat) (f : FreqWord) : (s.setVfreq ch f).silCnt = s.silCnt := rfl
@[simp] theorem setVfreq_pollPend (ch : Nat) (f : FreqWord) : (s.setVfreq ch f).pollPend = s.pollPend := rfl
@[simp] theorem setVfreq_duty (ch : Nat) (f : FreqWord) : (s.setVfreq ch f).duty = s.duty := rfl
@[simp] theorem setVfreq_underrun (ch : Nat) (f : FreqWord) : (s.setVfreq ch f).underrun = s.underrun := rfl
@[simp] theorem setVfreq_freqSat (ch : Nat) (f : FreqWord) : (s.setVfreq ch f).freqSat = s.freqSat := rfl
@[simp] theorem setVfreq_cmdErr (ch : Nat) (f : FreqWord) : (s.setVfreq ch f).cmdErr = s.cmdErr := rfl
@[simp] theorem setVfreq_obuf (ch : Nat) (f : FreqWord) : (s.setVfreq ch f).obuf = s.obuf := rfl
@[simp] theorem setVfreq_cnt (ch : Nat) (f : FreqWord) : (s.setVfreq ch f).cnt = s.cnt := rfl
@[simp] theorem setVfreq_cmp (ch : Nat) (f : FreqWord) : (s.setVfreq ch f).cmp = s.cmp := rfl
@[simp] theorem setVfreq_rst (ch : Nat) (f : FreqWord) : (s.setVfreq ch f).rst = s.rst := rfl
@[simp] theorem setVfreq_out (ch : Nat) (f : FreqWord) : (s.setVfreq ch f).out = s.out := rfl
@[simp] theorem setVfreq_turns (ch : Nat) (f : FreqWord) : (s.setVfreq ch f).turns = s.turns := rfl
@[simp] theorem setVfreq_freeCtr (ch : Nat) (f : FreqWord) : (s.setVfreq ch f).freeCtr = s.freeCtr := rfl
@[simp] theorem setVfreq_obufEpoch (ch : Nat) (f : FreqWord) : (s.setVfreq ch f).obufEpoch = s.obufEpoch := rfl
@[simp] theorem setVfreq_refillNo (ch : Nat) (f : FreqWord) : (s.setVfreq ch f).refillNo = s.refillNo := rfl
@[simp] theorem setVfreq_wordRefill (ch : Nat) (f : FreqWord) : (s.setVfreq ch f).wordRefill = s.wordRefill := rfl

@[simp] theorem acknowledge_cfg (u f c : Bool) : (s.acknowledge u f c).cfg = s.cfg := rfl
@[simp] theorem acknowledge_voices (u f c : Bool) : (s.acknowledge u f c).voices = s.voices := rfl
@[simp] theorem acknowledge_nact (u f c : Bool) : (s.acknowledge u f c).nact = s.nact := rfl
@[simp] theorem acknowledge_fxl (u f c : Bool) : (s.acknowledge u f c).fxl = s.fxl := rfl
@[simp] theorem acknowledge_tph (u f c : Bool) : (s.acknowledge u f c).tph = s.tph := rfl
@[simp] theorem acknowledge_fx (u f c : Bool) : (s.acknowledge u f c).fx = s.fx := rfl
@[simp] theorem acknowledge_auto (u f c : Bool) : (s.acknowledge u f c).auto = s.auto := rfl
@[simp] theorem acknowledge_wrIdx (u f c : Bool) : (s.acknowledge u f c).wrIdx = s.wrIdx := rfl
@[simp] theorem acknowledge_rdIdx (u f c : Bool) : (s.acknowledge u f c).rdIdx = s.rdIdx := rfl
@[simp] theorem acknowledge_sst (u f c : Bool) : (s.acknowledge u f c).sst = s.sst := rfl
@[simp] theorem acknowledge_pst (u f c : Bool) : (s.acknowledge u f c).pst = s.pst := rfl
@[simp] theorem acknowledge_bst (u f c : Bool) : (s.acknowledge u f c).bst = s.bst := rfl
@[simp] theorem acknowledge_rq (u f c : Bool) : (s.acknowledge u f c).rq = s.rq := rfl
@[simp] theorem acknowledge_pq (u f c : Bool) : (s.acknowledge u f c).pq = s.pq := rfl
@[simp] theorem acknowledge_fillBusy (u f c : Bool) : (s.acknowledge u f c).fillBusy = s.fillBusy := rfl
@[simp] theorem acknowledge_fillBuf (u f c : Bool) : (s.acknowledge u f c).fillBuf = s.fillBuf := rfl
@[simp] theorem acknowledge_playBuf (u f c : Bool) : (s.acknowledge u f c).playBuf = s.playBuf := rfl
@[simp] theorem acknowledge_lastw (u f c : Bool) : (s.acknowledge u f c).lastw = s.lastw := rfl
@[simp] theorem acknowledge_silCnt (u f c : Bool) : (s.acknowledge u f c).silCnt = s.silCnt := rfl
@[simp] theorem acknowledge_pollPend (u f c : Bool) : (s.acknowledge u f c).pollPend = s.pollPend := rfl
@[simp] theorem acknowledge_duty (u f c : Bool) : (s.acknowledge u f c).duty = s.duty := rfl
@[simp] theorem acknowledge_underrun (u f c : Bool) : (s.acknowledge u f c).underrun = (s.underrun && !u) := rfl
@[simp] theorem acknowledge_freqSat (u f c : Bool) : (s.acknowledge u f c).freqSat = (s.freqSat && !f) := rfl
@[simp] theorem acknowledge_cmdErr (u f c : Bool) : (s.acknowledge u f c).cmdErr = (s.cmdErr && !c) := rfl
@[simp] theorem acknowledge_obuf (u f c : Bool) : (s.acknowledge u f c).obuf = s.obuf := rfl
@[simp] theorem acknowledge_cnt (u f c : Bool) : (s.acknowledge u f c).cnt = s.cnt := rfl
@[simp] theorem acknowledge_cmp (u f c : Bool) : (s.acknowledge u f c).cmp = s.cmp := rfl
@[simp] theorem acknowledge_rst (u f c : Bool) : (s.acknowledge u f c).rst = s.rst := rfl
@[simp] theorem acknowledge_out (u f c : Bool) : (s.acknowledge u f c).out = s.out := rfl
@[simp] theorem acknowledge_turns (u f c : Bool) : (s.acknowledge u f c).turns = s.turns := rfl
@[simp] theorem acknowledge_freeCtr (u f c : Bool) : (s.acknowledge u f c).freeCtr = s.freeCtr := rfl
@[simp] theorem acknowledge_obufEpoch (u f c : Bool) : (s.acknowledge u f c).obufEpoch = s.obufEpoch := rfl
@[simp] theorem acknowledge_refillNo (u f c : Bool) : (s.acknowledge u f c).refillNo = s.refillNo := rfl
@[simp] theorem acknowledge_wordRefill (u f c : Bool) : (s.acknowledge u f c).wordRefill = s.wordRefill := rfl

@[simp] theorem beginStep_cfg : (s.beginStep).cfg = s.cfg := rfl
@[simp] theorem beginStep_voices : (s.beginStep).voices = s.voices := rfl
@[simp] theorem beginStep_nact : (s.beginStep).nact = s.nact := rfl
@[simp] theorem beginStep_fxl : (s.beginStep).fxl = s.fxl := rfl
@[simp] theorem beginStep_tph : (s.beginStep).tph = s.tph := rfl
@[simp] theorem beginStep_fx : (s.beginStep).fx = s.fx := rfl
@[simp] theorem beginStep_auto : (s.beginStep).auto = s.auto := rfl
@[simp] theorem beginStep_wrIdx : (s.beginStep).wrIdx = s.wrIdx := rfl
@[simp] theorem beginStep_rdIdx : (s.beginStep).rdIdx = s.rdIdx := rfl
@[simp] theorem beginStep_sst : (s.beginStep).sst = s.sst := rfl
@[simp] theorem beginStep_pst : (s.beginStep).pst = s.pst := rfl
@[simp] theorem beginStep_bst : (s.beginStep).bst = s.bst := rfl
@[simp] theorem beginStep_rq : (s.beginStep).rq = s.rq := rfl
@[simp] theorem beginStep_pq : (s.beginStep).pq = s.pq := rfl
@[simp] theorem beginStep_fillBusy : (s.beginStep).fillBusy = s.fillBusy := rfl
@[simp] theorem beginStep_fillBuf : (s.beginStep).fillBuf = s.fillBuf := rfl
@[simp] theorem beginStep_playBuf : (s.beginStep).playBuf = s.playBuf := rfl
@[simp] theorem beginStep_lastw : (s.beginStep).lastw = s.lastw := rfl
@[simp] theorem beginStep_silCnt : (s.beginStep).silCnt = s.silCnt := rfl
@[simp] theorem beginStep_pollPend : (s.beginStep).pollPend = s.pollPend := rfl
@[simp] theorem beginStep_duty : (s.beginStep).duty = s.duty := rfl
@[simp] theorem beginStep_underrun : (s.beginStep).underrun = s.underrun := rfl
@[simp] theorem beginStep_freqSat : (s.beginStep).freqSat = s.freqSat := rfl
@[simp] theorem beginStep_cmdErr : (s.beginStep).cmdErr = s.cmdErr := rfl
@[simp] theorem beginStep_obuf : (s.beginStep).obuf = s.obuf := rfl
@[simp] theorem beginStep_cnt : (s.beginStep).cnt = s.cnt := rfl
@[simp] theorem beginStep_cmp : (s.beginStep).cmp = s.cmp := rfl
@[simp] theorem beginStep_rst : (s.beginStep).rst = s.rst := rfl
@[simp] theorem beginStep_out : (s.beginStep).out = Pulses.none := rfl
@[simp] theorem beginStep_turns : (s.beginStep).turns = s.turns.tail := rfl
@[simp] theorem beginStep_freeCtr : (s.beginStep).freeCtr = s.freeCtr + 1 := rfl
@[simp] theorem beginStep_obufEpoch : (s.beginStep).obufEpoch = s.obufEpoch := rfl
@[simp] theorem beginStep_refillNo : (s.beginStep).refillNo = s.refillNo := rfl
@[simp] theorem beginStep_wordRefill : (s.beginStep).wordRefill = s.wordRefill := rfl

@[simp] theorem latchInputs_cfg : (s.latchInputs).cfg = s.cfg := rfl
@[simp] theorem latchInputs_voices : (s.latchInputs).voices = s.voices.map (Voice.latch s.cfg) := rfl
@[simp] theorem latchInputs_nact : (s.latchInputs).nact = s.voices.countP Voice.pendingActive := rfl
@[simp] theorem latchInputs_fxl : (s.latchInputs).fxl = s.fx := rfl
@[simp] theorem latchInputs_tph : (s.latchInputs).tph = s.tph := rfl
@[simp] theorem latchInputs_fx : (s.latchInputs).fx = s.fx := rfl
@[simp] theorem latchInputs_auto : (s.latchInputs).auto = s.auto := rfl
@[simp] theorem latchInputs_wrIdx : (s.latchInputs).wrIdx = s.wrIdx := rfl
@[simp] theorem latchInputs_rdIdx : (s.latchInputs).rdIdx = s.rdIdx := rfl
@[simp] theorem latchInputs_sst : (s.latchInputs).sst = s.sst := rfl
@[simp] theorem latchInputs_pst : (s.latchInputs).pst = s.pst := rfl
@[simp] theorem latchInputs_bst : (s.latchInputs).bst = s.bst := rfl
@[simp] theorem latchInputs_rq : (s.latchInputs).rq = s.rq := rfl
@[simp] theorem latchInputs_pq : (s.latchInputs).pq = s.pq := rfl
@[simp] theorem latchInputs_fillBusy : (s.latchInputs).fillBusy = s.fillBusy := rfl
@[simp] theorem latchInputs_fillBuf : (s.latchInputs).fillBuf = s.fillBuf := rfl
@[simp] theorem latchInputs_playBuf : (s.latchInputs).playBuf = s.playBuf := rfl
@[simp] theorem latchInputs_lastw : (s.latchInputs).lastw = s.lastw := rfl
@[simp] theorem latchInputs_silCnt : (s.latchInputs).silCnt = s.silCnt := rfl
@[simp] theorem latchInputs_pollPend : (s.latchInputs).pollPend = s.pollPend := rfl
@[simp] theorem latchInputs_duty : (s.latchInputs).duty = s.duty := rfl
@[simp] theorem latchInputs_underrun : (s.latchInputs).underrun = s.underrun := rfl
@[simp] theorem latchInputs_freqSat : (s.latchInputs).freqSat = s.freqSat := rfl
@[simp] theorem latchInputs_cmdErr : (s.latchInputs).cmdErr = s.cmdErr := rfl
@[simp] theorem latchInputs_obuf : (s.latchInputs).obuf = s.obuf := rfl
@[simp] theorem latchInputs_cnt : (s.latchInputs).cnt = s.cnt := rfl
@[simp] theorem latchInputs_cmp : (s.latchInputs).cmp = s.cmp := rfl
@[simp] theorem latchInputs_rst : (s.latchInputs).rst = s.rst := rfl
@[simp] theorem latchInputs_out : (s.latchInputs).out = s.out := rfl
@[simp] theorem latchInputs_turns : (s.latchInputs).turns = s.turns := rfl
@[simp] theorem latchInputs_freeCtr : (s.latchInputs).freeCtr = s.freeCtr := rfl
@[simp] theorem latchInputs_obufEpoch : (s.latchInputs).obufEpoch = s.obufEpoch := rfl
@[simp] theorem latchInputs_refillNo : (s.latchInputs).refillNo = s.refillNo := rfl
@[simp] theorem latchInputs_wordRefill : (s.latchInputs).wordRefill = s.wordRefill := rfl

@[simp] theorem countSilence_cfg : (s.countSilence).cfg = s.cfg := rfl
@[simp] theorem countSilence_voices : (s.countSilence).voices = s.voices := rfl
@[simp] theorem countSilence_nact : (s.countSilence).nact = s.nact := rfl
@[simp] theorem countSilence_fxl : (s.countSilence).fxl = s.fxl := rfl
@[simp] theorem countSilence_tph : (s.countSilence).tph = s.tph := rfl
@[simp] theorem countSilence_fx : (s.countSilence).fx = s.fx := rfl
@[simp] theorem countSilence_auto : (s.countSilence).auto = s.auto := rfl
@[simp] theorem countSilence_wrIdx : (s.countSilence).wrIdx = s.wrIdx := rfl
@[simp] theorem countSilence_rdIdx : (s.countSilence).rdIdx = s.rdIdx := rfl
@[simp] theorem countSilence_sst : (s.countSilence).sst = s.sst := rfl
@[simp] theorem countSilence_pst : (s.countSilence).pst = s.pst := rfl
@[simp] theorem countSilence_bst : (s.countSilence).bst = s.bst := rfl
@[simp] theorem countSilence_rq : (s.countSilence).rq = s.rq := rfl
@[simp] theorem countSilence_pq : (s.countSilence).pq = s.pq := rfl
@[simp] theorem countSilence_fillBusy : (s.countSilence).fillBusy = s.fillBusy := rfl
@[simp] theorem countSilence_fillBuf : (s.countSilence).fillBuf = s.fillBuf := rfl
@[simp] theorem countSilence_playBuf : (s.countSilence).playBuf = s.playBuf := rfl
@[simp] theorem countSilence_lastw : (s.countSilence).lastw = s.lastw := rfl
@[simp] theorem countSilence_silCnt : (s.countSilence).silCnt = if s.nact = 0 then min (s.silCnt + 1) s.cfg.silenceLimit else 0 := rfl
@[simp] theorem countSilence_pollPend : (s.countSilence).pollPend = s.pollPend := rfl
@[simp] theorem countSilence_duty : (s.countSilence).duty = s.duty := rfl
@[simp] theorem countSilence_underrun : (s.countSilence).underrun = s.underrun := rfl
@[simp] theorem countSilence_freqSat : (s.countSilence).freqSat = s.freqSat := rfl
@[simp] theorem countSilence_cmdErr : (s.countSilence).cmdErr = s.cmdErr := rfl
@[simp] theorem countSilence_obuf : (s.countSilence).obuf = s.obuf := rfl
@[simp] theorem countSilence_cnt : (s.countSilence).cnt = s.cnt := rfl
@[simp] theorem countSilence_cmp : (s.countSilence).cmp = s.cmp := rfl
@[simp] theorem countSilence_rst : (s.countSilence).rst = s.rst := rfl
@[simp] theorem countSilence_out : (s.countSilence).out = s.out := rfl
@[simp] theorem countSilence_turns : (s.countSilence).turns = s.turns := rfl
@[simp] theorem countSilence_freeCtr : (s.countSilence).freeCtr = s.freeCtr := rfl
@[simp] theorem countSilence_obufEpoch : (s.countSilence).obufEpoch = s.obufEpoch := rfl
@[simp] theorem countSilence_refillNo : (s.countSilence).refillNo = s.refillNo := rfl
@[simp] theorem countSilence_wordRefill : (s.countSilence).wordRefill = s.wordRefill := rfl

@[simp] theorem refillWrite_cfg (d : Nat) : (s.refillWrite d).cfg = s.cfg := rfl
@[simp] theorem refillWrite_voices (d : Nat) : (s.refillWrite d).voices = s.voices.map (Voice.advance s.cfg) := rfl
@[simp] theorem refillWrite_nact (d : Nat) : (s.refillWrite d).nact = s.nact := rfl
@[simp] theorem refillWrite_fxl (d : Nat) : (s.refillWrite d).fxl = s.fxl := rfl
@[simp] theorem refillWrite_tph (d : Nat) : (s.refillWrite d).tph = (s.tph + s.cfg.tstep) % s.cfg.tmod := rfl
@[simp] theorem refillWrite_fx (d : Nat) : (s.refillWrite d).fx = s.fx := rfl
@[simp] theorem refillWrite_auto (d : Nat) : (s.refillWrite d).auto = s.auto := rfl
@[simp] theorem refillWrite_wrIdx (d : Nat) : (s.refillWrite d).wrIdx = s.wrIdx + 1 := rfl
@[simp] theorem refillWrite_rdIdx (d : Nat) : (s.refillWrite d).rdIdx = s.rdIdx := rfl
@[simp] theorem refillWrite_sst (d : Nat) : (s.refillWrite d).sst = s.sst := rfl
@[simp] theorem refillWrite_pst (d : Nat) : (s.refillWrite d).pst = s.pst := rfl
@[simp] theorem refillWrite_bst (d : Nat) : (s.refillWrite d).bst = s.bst := rfl
@[simp] theorem refillWrite_rq (d : Nat) : (s.refillWrite d).rq = s.rq := rfl
@[simp] theorem refillWrite_pq (d : Nat) : (s.refillWrite d).pq = s.pq := rfl
@[simp] theorem refillWrite_fillBusy (d : Nat) : (s.refillWrite d).fillBusy = s.fillBusy := rfl
@[simp] theorem refillWrite_fillBuf (d : Nat) : (s.refillWrite d).fillBuf = s.fillBuf := rfl
@[simp] theorem refillWrite_playBuf (d : Nat) : (s.refillWrite d).playBuf = s.playBuf := rfl
@[simp] theorem refillWrite_lastw (d : Nat) : (s.refillWrite d).lastw = s.lastw := rfl
@[simp] theorem refillWrite_silCnt (d : Nat) : (s.refillWrite d).silCnt = s.silCnt := rfl
@[simp] theorem refillWrite_pollPend (d : Nat) : (s.refillWrite d).pollPend = s.pollPend := rfl
@[simp] theorem refillWrite_duty (d : Nat) : (s.refillWrite d).duty = s.duty := rfl
@[simp] theorem refillWrite_underrun (d : Nat) : (s.refillWrite d).underrun = s.underrun := rfl
@[simp] theorem refillWrite_freqSat (d : Nat) : (s.refillWrite d).freqSat = s.freqSat := rfl
@[simp] theorem refillWrite_cmdErr (d : Nat) : (s.refillWrite d).cmdErr = s.cmdErr := rfl
@[simp] theorem refillWrite_obuf (d : Nat) : (s.refillWrite d).obuf = s.obuf.set s.fillBuf (memSet (s.obuf.get s.fillBuf) s.wrIdx d) := rfl
@[simp] theorem refillWrite_cnt (d : Nat) : (s.refillWrite d).cnt = s.cnt := rfl
@[simp] theorem refillWrite_cmp (d : Nat) : (s.refillWrite d).cmp = s.cmp := rfl
@[simp] theorem refillWrite_rst (d : Nat) : (s.refillWrite d).rst = s.rst := rfl
@[simp] theorem refillWrite_out (d : Nat) : (s.refillWrite d).out = s.out := rfl
@[simp] theorem refillWrite_turns (d : Nat) : (s.refillWrite d).turns = s.turns := rfl
@[simp] theorem refillWrite_freeCtr (d : Nat) : (s.refillWrite d).freeCtr = s.freeCtr := rfl
@[simp] theorem refillWrite_obufEpoch (d : Nat) : (s.refillWrite d).obufEpoch = s.obufEpoch := rfl
@[simp] theorem refillWrite_refillNo (d : Nat) : (s.refillWrite d).refillNo = s.refillNo := rfl
@[simp] theorem refillWrite_wordRefill (d : Nat) : (s.refillWrite d).wordRefill = s.wordRefill.set s.fillBuf (memSet (s.wordRefill.get s.fillBuf) s.wrIdx (s.refillNo.get s.fillBuf)) := rfl

@[simp] theorem drain_cfg : (s.drain).cfg = s.cfg := rfl
@[simp] theorem drain_voices : (s.drain).voices = s.voices := rfl
@[simp] theorem drain_nact : (s.drain).nact = s.nact := rfl
@[simp] theorem drain_fxl : (s.drain).fxl = s.fxl := rfl
@[simp] theorem drain_tph : (s.drain).tph = s.tph := rfl
@[simp] theorem drain_fx : (s.drain).fx = s.fx := rfl
@[simp] theorem drain_auto : (s.drain).auto = s.auto := rfl
@[simp] theorem drain_wrIdx : (s.drain).wrIdx = s.wrIdx := rfl
@[simp] theorem drain_rdIdx : (s.drain).rdIdx = 0 := rfl
@[simp] theorem drain_sst : (s.drain).sst = s.sst := rfl
@[simp] theorem drain_pst : (s.drain).pst = .wait := rfl
@[simp] theorem drain_bst : (s.drain).bst = s.bst.set s.playBuf .empty := rfl
@[simp] theorem drain_rq : (s.drain).rq = if s.lastw then s.rq else s.rq ++ [s.playBuf] := rfl
@[simp] theorem drain_pq : (s.drain).pq = s.pq := rfl
@[simp] theorem drain_fillBusy : (s.drain).fillBusy = s.fillBusy := rfl
@[simp] theorem drain_fillBuf : (s.drain).fillBuf = s.fillBuf := rfl
@[simp] theorem drain_playBuf : (s.drain).playBuf = s.playBuf := rfl
@[simp] theorem drain_lastw : (s.drain).lastw = s.lastw := rfl
@[simp] theorem drain_silCnt : (s.drain).silCnt = s.silCnt := rfl
@[simp] theorem drain_pollPend : (s.drain).pollPend = s.pollPend := rfl
@[simp] theorem drain_duty : (s.drain).duty = s.duty := rfl
@[simp] theorem drain_underrun : (s.drain).underrun = s.underrun := rfl
@[simp] theorem drain_freqSat : (s.drain).freqSat = s.freqSat := rfl
@[simp] theorem drain_cmdErr : (s.drain).cmdErr = s.cmdErr := rfl
@[simp] theorem drain_obuf : (s.drain).obuf = s.obuf := rfl
@[simp] theorem drain_cnt : (s.drain).cnt = s.cnt := rfl
@[simp] theorem drain_cmp : (s.drain).cmp = s.cmp := rfl
@[simp] theorem drain_rst : (s.drain).rst = s.rst := rfl
@[simp] theorem drain_out : (s.drain).out = { s.out with drained := some s.playBuf } := rfl
@[simp] theorem drain_turns : (s.drain).turns = s.turns := rfl
@[simp] theorem drain_freeCtr : (s.drain).freeCtr = s.freeCtr := rfl
@[simp] theorem drain_obufEpoch : (s.drain).obufEpoch = s.obufEpoch := rfl
@[simp] theorem drain_refillNo : (s.drain).refillNo = s.refillNo := rfl
@[simp] theorem drain_wordRefill : (s.drain).wordRefill = s.wordRefill := rfl

@[simp] theorem goIdle_cfg : (s.goIdle).cfg = s.cfg := rfl
@[simp] theorem goIdle_voices : (s.goIdle).voices = s.voices := rfl
@[simp] theorem goIdle_nact : (s.goIdle).nact = s.nact := rfl
@[simp] theorem goIdle_fxl : (s.goIdle).fxl = s.fxl := rfl
@[simp] theorem goIdle_tph : (s.goIdle).tph = s.tph := rfl
@[simp] theorem goIdle_fx : (s.goIdle).fx = s.fx := rfl
@[simp] theorem goIdle_auto : (s.goIdle).auto = s.auto := rfl
@[simp] theorem goIdle_wrIdx : (s.goIdle).wrIdx = s.wrIdx := rfl
@[simp] theorem goIdle_rdIdx : (s.goIdle).rdIdx = s.rdIdx := rfl
@[simp] theorem goIdle_sst : (s.goIdle).sst = .idle := rfl
@[simp] theorem goIdle_pst : (s.goIdle).pst = .off := rfl
@[simp] theorem goIdle_bst : (s.goIdle).bst = s.bst := rfl
@[simp] theorem goIdle_rq : (s.goIdle).rq = s.rq := rfl
@[simp] theorem goIdle_pq : (s.goIdle).pq = s.pq := rfl
@[simp] theorem goIdle_fillBusy : (s.goIdle).fillBusy = s.fillBusy := rfl
@[simp] theorem goIdle_fillBuf : (s.goIdle).fillBuf = s.fillBuf := rfl
@[simp] theorem goIdle_playBuf : (s.goIdle).playBuf = s.playBuf := rfl
@[simp] theorem goIdle_lastw : (s.goIdle).lastw = false := rfl
@[simp] theorem goIdle_silCnt : (s.goIdle).silCnt = s.silCnt := rfl
@[simp] theorem goIdle_pollPend : (s.goIdle).pollPend = s.pollPend := rfl
@[simp] theorem goIdle_duty : (s.goIdle).duty = s.cfg.idleDuty := rfl
@[simp] theorem goIdle_underrun : (s.goIdle).underrun = s.underrun := rfl
@[simp] theorem goIdle_freqSat : (s.goIdle).freqSat = s.freqSat := rfl
@[simp] theorem goIdle_cmdErr : (s.goIdle).cmdErr = s.cmdErr := rfl
@[simp] theorem goIdle_obuf : (s.goIdle).obuf = s.obuf := rfl
@[simp] theorem goIdle_cnt : (s.goIdle).cnt = s.cnt := rfl
@[simp] theorem goIdle_cmp : (s.goIdle).cmp = s.cmp := rfl
@[simp] theorem goIdle_rst : (s.goIdle).rst = s.rst := rfl
@[simp] theorem goIdle_out : (s.goIdle).out = s.out := rfl
@[simp] theorem goIdle_turns : (s.goIdle).turns = s.turns := rfl
@[simp] theorem goIdle_freeCtr : (s.goIdle).freeCtr = s.freeCtr := rfl
@[simp] theorem goIdle_obufEpoch : (s.goIdle).obufEpoch = s.obufEpoch := rfl
@[simp] theorem goIdle_refillNo : (s.goIdle).refillNo = s.refillNo := rfl
@[simp] theorem goIdle_wordRefill : (s.goIdle).wordRefill = s.wordRefill := rfl

@[simp] theorem strobe_cfg : (s.strobe).cfg = s.cfg := rfl
@[simp] theorem strobe_voices : (s.strobe).voices = s.voices := rfl
@[simp] theorem strobe_nact : (s.strobe).nact = s.nact := rfl
@[simp] theorem strobe_fxl : (s.strobe).fxl = s.fxl := rfl
@[simp] theorem strobe_tph : (s.strobe).tph = s.tph := rfl
@[simp] theorem strobe_fx : (s.strobe).fx = s.fx := rfl
@[simp] theorem strobe_auto : (s.strobe).auto = s.auto := rfl
@[simp] theorem strobe_wrIdx : (s.strobe).wrIdx = s.wrIdx := rfl
@[simp] theorem strobe_rdIdx : (s.strobe).rdIdx = s.rdIdx := rfl
@[simp] theorem strobe_sst : (s.strobe).sst = s.sst := rfl
@[simp] theorem strobe_pst : (s.strobe).pst = s.pst := rfl
@[simp] theorem strobe_bst : (s.strobe).bst = s.bst := rfl
@[simp] theorem strobe_rq : (s.strobe).rq = s.rq := rfl
@[simp] theorem strobe_pq : (s.strobe).pq = s.pq := rfl
@[simp] theorem strobe_fillBusy : (s.strobe).fillBusy = s.fillBusy := rfl
@[simp] theorem strobe_fillBuf : (s.strobe).fillBuf = s.fillBuf := rfl
@[simp] theorem strobe_playBuf : (s.strobe).playBuf = s.playBuf := rfl
@[simp] theorem strobe_lastw : (s.strobe).lastw = s.lastw := rfl
@[simp] theorem strobe_silCnt : (s.strobe).silCnt = s.silCnt := rfl
@[simp] theorem strobe_pollPend : (s.strobe).pollPend = s.pollPend := rfl
@[simp] theorem strobe_duty : (s.strobe).duty = s.duty := rfl
@[simp] theorem strobe_underrun : (s.strobe).underrun = s.underrun := rfl
@[simp] theorem strobe_freqSat : (s.strobe).freqSat = s.freqSat := rfl
@[simp] theorem strobe_cmdErr : (s.strobe).cmdErr = s.cmdErr := rfl
@[simp] theorem strobe_obuf : (s.strobe).obuf = s.obuf := rfl
@[simp] theorem strobe_cnt : (s.strobe).cnt = s.cnt := rfl
@[simp] theorem strobe_cmp : (s.strobe).cmp = s.cmp := rfl
@[simp] theorem strobe_rst : (s.strobe).rst = s.rst := rfl
@[simp] theorem strobe_out : (s.strobe).out = { s.out with dutyStrobe := true } := rfl
@[simp] theorem strobe_turns : (s.strobe).turns = s.turns := rfl
@[simp] theorem strobe_freeCtr : (s.strobe).freeCtr = s.freeCtr := rfl
@[simp] theorem strobe_obufEpoch : (s.strobe).obufEpoch = s.obufEpoch := rfl
@[simp] theorem strobe_refillNo : (s.strobe).refillNo = s.refillNo := rfl
@[simp] theorem strobe_wordRefill : (s.strobe).wordRefill = s.wordRefill := rfl

@[simp] theorem raise_cfg (x : ErrFlag) : (s.raise x).cfg = s.cfg := by
  cases x <;> rfl
@[simp] theorem raise_voices (x : ErrFlag) : (s.raise x).voices = s.voices := by
  cases x <;> rfl
@[simp] theorem raise_nact (x : ErrFlag) : (s.raise x).nact = s.nact := by
  cases x <;> rfl
@[simp] theorem raise_fxl (x : ErrFlag) : (s.raise x).fxl = s.fxl := by
  cases x <;> rfl
@[simp] theorem raise_tph (x : ErrFlag) : (s.raise x).tph = s.tph := by
  cases x <;> rfl
@[simp] theorem raise_fx (x : ErrFlag) : (s.raise x).fx = s.fx := by
  cases x <;> rfl
@[simp] theorem raise_auto (x : ErrFlag) : (s.raise x).auto = s.auto := by
  cases x <;> rfl
@[simp] theorem raise_wrIdx (x : ErrFlag) : (s.raise x).wrIdx = s.wrIdx := by
  cases x <;> rfl
@[simp] theorem raise_rdIdx (x : ErrFlag) : (s.raise x).rdIdx = s.rdIdx := by
  cases x <;> rfl
@[simp] theorem raise_sst (x : ErrFlag) : (s.raise x).sst = s.sst := by
  cases x <;> rfl
@[simp] theorem raise_pst (x : ErrFlag) : (s.raise x).pst = s.pst := by
  cases x <;> rfl
@[simp] theorem raise_bst (x : ErrFlag) : (s.raise x).bst = s.bst := by
  cases x <;> rfl
@[simp] theorem raise_rq (x : ErrFlag) : (s.raise x).rq = s.rq := by
  cases x <;> rfl
@[simp] theorem raise_pq (x : ErrFlag) : (s.raise x).pq = s.pq := by
  cases x <;> rfl
@[simp] theorem raise_fillBusy (x : ErrFlag) : (s.raise x).fillBusy = s.fillBusy := by
  cases x <;> rfl
@[simp] theorem raise_fillBuf (x : ErrFlag) : (s.raise x).fillBuf = s.fillBuf := by
  cases x <;> rfl
@[simp] theorem raise_playBuf (x : ErrFlag) : (s.raise x).playBuf = s.playBuf := by
  cases x <;> rfl
@[simp] theorem raise_lastw (x : ErrFlag) : (s.raise x).lastw = s.lastw := by
  cases x <;> rfl
@[simp] theorem raise_silCnt (x : ErrFlag) : (s.raise x).silCnt = s.silCnt := by
  cases x <;> rfl
@[simp] theorem raise_pollPend (x : ErrFlag) : (s.raise x).pollPend = s.pollPend := by
  cases x <;> rfl
@[simp] theorem raise_duty (x : ErrFlag) : (s.raise x).duty = s.duty := by
  cases x <;> rfl
@[simp] theorem raise_obuf (x : ErrFlag) : (s.raise x).obuf = s.obuf := by
  cases x <;> rfl
@[simp] theorem raise_cnt (x : ErrFlag) : (s.raise x).cnt = s.cnt := by
  cases x <;> rfl
@[simp] theorem raise_cmp (x : ErrFlag) : (s.raise x).cmp = s.cmp := by
  cases x <;> rfl
@[simp] theorem raise_rst (x : ErrFlag) : (s.raise x).rst = s.rst := by
  cases x <;> rfl
@[simp] theorem raise_turns (x : ErrFlag) : (s.raise x).turns = s.turns := by
  cases x <;> rfl
@[simp] theorem raise_freeCtr (x : ErrFlag) : (s.raise x).freeCtr = s.freeCtr := by
  cases x <;> rfl
@[simp] theorem raise_obufEpoch (x : ErrFlag) : (s.raise x).obufEpoch = s.obufEpoch := by
  cases x <;> rfl
@[simp] theorem raise_refillNo (x : ErrFlag) : (s.raise x).refillNo = s.refillNo := by
  cases x <;> rfl
@[simp] theorem raise_wordRefill (x : ErrFlag) : (s.raise x).wordRefill = s.wordRefill := by
  cases x <;> rfl

@[simp] theorem acquire_cfg : (s.acquire).cfg = s.cfg := by
  unfold State.acquire; repeat' split
  all_goals rfl
@[simp] theorem acquire_voices : (s.acquire).voices = s.voices := by
  unfold State.acquire; repeat' split
  all_goals rfl
@[simp] theorem acquire_nact : (s.acquire).nact = s.nact := by
  unfold State.acquire; repeat' split
  all_goals rfl
@[simp] theorem acquire_fxl : (s.acquire).fxl = s.fxl := by
  unfold State.acquire; repeat' split
  all_goals rfl
@[simp] theorem acquire_tph : (s.acquire).tph = s.tph := by
  unfold State.acquire; repeat' split
  all_goals rfl
@[simp] theorem acquire_fx : (s.acquire).fx = s.fx := by
  unfold State.acquire; repeat' split
  all_goals rfl
@[simp] theorem acquire_auto : (s.acquire).auto = s.auto := by
  unfold State.acquire; repeat' split
  all_goals rfl
@[simp] theorem acquire_wrIdx : (s.acquire).wrIdx = s.wrIdx := by
  unfold State.acquire; repeat' split
  all_goals rfl
@[simp] theorem acquire_sst : (s.acquire).sst = s.sst := by
  unfold State.acquire; repeat' split
  all_goals rfl
@[simp] theorem acquire_rq : (s.acquire).rq = s.rq := by
  unfold State.acquire; repeat' split
  all_goals rfl
@[simp] theorem acquire_fillBusy : (s.acquire).fillBusy = s.fillBusy := by
  unfold State.acquire; repeat' split
  all_goals rfl
@[simp] theorem acquire_fillBuf : (s.acquire).fillBuf = s.fillBuf := by
  unfold State.acquire; repeat' split
  all_goals rfl
@[simp] theorem acquire_lastw : (s.acquire).lastw = s.lastw := by
  unfold State.acquire; repeat' split
  all_goals rfl
@[simp] theorem acquire_silCnt : (s.acquire).silCnt = s.silCnt := by
  unfold State.acquire; repeat' split
  all_goals rfl
@[simp] theorem acquire_pollPend : (s.acquire).pollPend = s.pollPend := by
  unfold State.acquire; repeat' split
  all_goals rfl
@[simp] theorem acquire_duty : (s.acquire).duty = s.duty := by
  unfold State.acquire; repeat' split
  all_goals rfl
@[simp] theorem acquire_underrun : (s.acquire).underrun = s.underrun := by
  unfold State.acquire; repeat' split
  all_goals rfl
@[simp] theorem acquire_freqSat : (s.acquire).freqSat = s.freqSat := by
  unfold State.acquire; repeat' split
  all_goals rfl
@[simp] theorem acquire_cmdErr : (s.acquire).cmdErr = s.cmdErr := by
  unfold State.acquire; repeat' split
  all_goals rfl
@[simp] theorem acquire_obuf : (s.acquire).obuf = s.obuf := by
  unfold State.acquire; repeat' split
  all_goals rfl
@[simp] theorem acquire_cnt : (s.acquire).cnt = s.cnt := by
  unfold State.acquire; repeat' split
  all_goals rfl
@[simp] theorem acquire_cmp : (s.acquire).cmp = s.cmp := by
  unfold State.acquire; repeat' split
  all_goals rfl
@[simp] theorem acquire_rst : (s.acquire).rst = s.rst := by
  unfold State.acquire; repeat' split
  all_goals rfl
@[simp] theorem acquire_out : (s.acquire).out = s.out := by
  unfold State.acquire; repeat' split
  all_goals rfl
@[simp] theorem acquire_turns : (s.acquire).turns = s.turns := by
  unfold State.acquire; repeat' split
  all_goals rfl
@[simp] theorem acquire_freeCtr : (s.acquire).freeCtr = s.freeCtr := by
  unfold State.acquire; repeat' split
  all_goals rfl
@[simp] theorem acquire_obufEpoch : (s.acquire).obufEpoch = s.obufEpoch := by
  unfold State.acquire; repeat' split
  all_goals rfl
@[simp] theorem acquire_refillNo : (s.acquire).refillNo = s.refillNo := by
  unfold State.acquire; repeat' split
  all_goals rfl
@[simp] theorem acquire_wordRefill : (s.acquire).wordRefill = s.wordRefill := by
  unfold State.acquire; repeat' split
  all_goals rfl

@[simp] theorem emit_cfg (v : Nat) : (s.emit v).cfg = s.cfg := by
  unfold State.emit; split <;> rfl
@[simp] theorem emit_voices (v : Nat) : (s.emit v).voices = s.voices := by
  unfold State.emit; split <;> rfl
@[simp] theorem emit_nact (v : Nat) : (s.emit v).nact = s.nact := by
  unfold State.emit; split <;> rfl
@[simp] theorem emit_fxl (v : Nat) : (s.emit v).fxl = s.fxl := by
  unfold State.emit; split <;> rfl
@[simp] theorem emit_tph (v : Nat) : (s.emit v).tph = s.tph := by
  unfold State.emit; split <;> rfl
@[simp] theorem emit_fx (v : Nat) : (s.emit v).fx = s.fx := by
  unfold State.emit; split <;> rfl
@[simp] theorem emit_auto (v : Nat) : (s.emit v).auto = s.auto := by
  unfold State.emit; split <;> rfl
@[simp] theorem emit_wrIdx (v : Nat) : (s.emit v).wrIdx = s.wrIdx := by
  unfold State.emit; split <;> rfl
@[simp] theorem emit_sst (v : Nat) : (s.emit v).sst = s.sst := by
  unfold State.emit; split <;> rfl
@[simp] theorem emit_pq (v : Nat) : (s.emit v).pq = s.pq := by
  unfold State.emit; split <;> rfl
@[simp] theorem emit_fillBusy (v : Nat) : (s.emit v).fillBusy = s.fillBusy := by
  unfold State.emit; split <;> rfl
@[simp] theorem emit_fillBuf (v : Nat) : (s.emit v).fillBuf = s.fillBuf := by
  unfold State.emit; split <;> rfl
@[simp] theorem emit_playBuf (v : Nat) : (s.emit v).playBuf = s.playBuf := by
  unfold State.emit; split <;> rfl
@[simp] theorem emit_lastw (v : Nat) : (s.emit v).lastw = s.lastw := by
  unfold State.emit; split <;> rfl
@[simp] theorem emit_silCnt (v : Nat) : (s.emit v).silCnt = s.silCnt := by
  unfold State.emit; split <;> rfl
@[simp] theorem emit_pollPend (v : Nat) : (s.emit v).pollPend = s.pollPend := by
  unfold State.emit; split <;> rfl
@[simp] theorem emit_underrun (v : Nat) : (s.emit v).underrun = s.underrun := by
  unfold State.emit; split <;> rfl
@[simp] theorem emit_freqSat (v : Nat) : (s.emit v).freqSat = s.freqSat := by
  unfold State.emit; split <;> rfl
@[simp] theorem emit_cmdErr (v : Nat) : (s.emit v).cmdErr = s.cmdErr := by
  unfold State.emit; split <;> rfl
@[simp] theorem emit_obuf (v : Nat) : (s.emit v).obuf = s.obuf := by
  unfold State.emit; split <;> rfl
@[simp] theorem emit_cnt (v : Nat) : (s.emit v).cnt = s.cnt := by
  unfold State.emit; split <;> rfl
@[simp] theorem emit_cmp (v : Nat) : (s.emit v).cmp = s.cmp := by
  unfold State.emit; split <;> rfl
@[simp] theorem emit_rst (v : Nat) : (s.emit v).rst = s.rst := by
  unfold State.emit; split <;> rfl
@[simp] theorem emit_turns (v : Nat) : (s.emit v).turns = s.turns := by
  unfold State.emit; split <;> rfl
@[simp] theorem emit_freeCtr (v : Nat) : (s.emit v).freeCtr = s.freeCtr := by
  unfold State.emit; split <;> rfl
@[simp] theorem emit_obufEpoch (v : Nat) : (s.emit v).obufEpoch = s.obufEpoch := by
  unfold State.emit; split <;> rfl
@[simp] theorem emit_refillNo (v : Nat) : (s.emit v).refillNo = s.refillNo := by
  unfold State.emit; split <;> rfl
@[simp] theorem emit_wordRefill (v : Nat) : (s.emit v).wordRefill = s.wordRefill := by
  unfold State.emit; split <;> rfl

@[simp] theorem cutOffOrFill_cfg (k : BufId) : (s.cutOffOrFill k).cfg = s.cfg := by
  unfold State.cutOffOrFill; split <;> rfl
@[simp] theorem cutOffOrFill_voices (k : BufId) : (s.cutOffOrFill k).voices = s.voices := by
  unfold State.cutOffOrFill; split <;> rfl
@[simp] theorem cutOffOrFill_nact (k : BufId) : (s.cutOffOrFill k).nact = s.nact := by
  unfold State.cutOffOrFill; split <;> rfl
@[simp] theorem cutOffOrFill_fxl (k : BufId) : (s.cutOffOrFill k).fxl = s.fxl := by
  unfold State.cutOffOrFill; split <;> rfl
@[simp] theorem cutOffOrFill_tph (k : BufId) : (s.cutOffOrFill k).tph = s.tph := by
  unfold State.cutOffOrFill; split <;> rfl
@[simp] theorem cutOffOrFill_fx (k : BufId) : (s.cutOffOrFill k).fx = s.fx := by
  unfold State.cutOffOrFill; split <;> rfl
@[simp] theorem cutOffOrFill_auto (k : BufId) : (s.cutOffOrFill k).auto = s.auto := by
  unfold State.cutOffOrFill; split <;> rfl
@[simp] theorem cutOffOrFill_rdIdx (k : BufId) : (s.cutOffOrFill k).rdIdx = s.rdIdx := by
  unfold State.cutOffOrFill; split <;> rfl
@[simp] theorem cutOffOrFill_sst (k : BufId) : (s.cutOffOrFill k).sst = s.sst := by
  unfold State.cutOffOrFill; split <;> rfl
@[simp] theorem cutOffOrFill_pst (k : BufId) : (s.cutOffOrFill k).pst = s.pst := by
  unfold State.cutOffOrFill; split <;> rfl
@[simp] theorem cutOffOrFill_pq (k : BufId) : (s.cutOffOrFill k).pq = s.pq := by
  unfold State.cutOffOrFill; split <;> rfl
@[simp] theorem cutOffOrFill_playBuf (k : BufId) : (s.cutOffOrFill k).playBuf = s.playBuf := by
  unfold State.cutOffOrFill; split <;> rfl
@[simp] theorem cutOffOrFill_silCnt (k : BufId) : (s.cutOffOrFill k).silCnt = s.silCnt := by
  unfold State.cutOffOrFill; split <;> rfl
@[simp] theorem cutOffOrFill_pollPend (k : BufId) : (s.cutOffOrFill k).pollPend = s.pollPend := by
  unfold State.cutOffOrFill; split <;> rfl
@[simp] theorem cutOffOrFill_duty (k : BufId) : (s.cutOffOrFill k).duty = s.duty := by
  unfold State.cutOffOrFill; split <;> rfl
@[simp] theorem cutOffOrFill_underrun (k : BufId) : (s.cutOffOrFill k).underrun = s.underrun := by
  unfold State.cutOffOrFill; split <;> rfl
@[simp] theorem cutOffOrFill_freqSat (k : BufId) : (s.cutOffOrFill k).freqSat = s.freqSat := by
  unfold State.cutOffOrFill; split <;> rfl
@[simp] theorem cutOffOrFill_cmdErr (k : BufId) : (s.cutOffOrFill k).cmdErr = s.cmdErr := by
  unfold State.cutOffOrFill; split <;> rfl
@[simp] theorem cutOffOrFill_obuf (k : BufId) : (s.cutOffOrFill k).obuf = s.obuf := by
  unfold State.cutOffOrFill; split <;> rfl
@[simp] theorem cutOffOrFill_cnt (k : BufId) : (s.cutOffOrFill k).cnt = s.cnt := by
  unfold State.cutOffOrFill; split <;> rfl
@[simp] theorem cutOffOrFill_cmp (k : BufId) : (s.cutOffOrFill k).cmp = s.cmp := by
  unfold State.cutOffOrFill; split <;> rfl
@[simp] theorem cutOffOrFill_rst (k : BufId) : (s.cutOffOrFill k).rst = s.rst := by
  unfold State.cutOffOrFill; split <;> rfl
@[simp] theorem cutOffOrFill_out (k : BufId) : (s.cutOffOrFill k).out = s.out := by
  unfold State.cutOffOrFill; split <;> rfl
@[simp] theorem cutOffOrFill_turns (k : BufId) : (s.cutOffOrFill k).turns = s.turns := by
  unfold State.cutOffOrFill; split <;> rfl
@[simp] theorem cutOffOrFill_freeCtr (k : BufId) : (s.cutOffOrFill k).freeCtr = s.freeCtr := by
  unfold State.cutOffOrFill; split <;> rfl
@[simp] theorem cutOffOrFill_obufEpoch (k : BufId) : (s.cutOffOrFill k).obufEpoch = s.obufEpoch := by
  unfold State.cutOffOrFill; split <;> rfl
@[simp] theorem cutOffOrFill_wordRefill (k : BufId) : (s.cutOffOrFill k).wordRefill = s.wordRefill := by
  unfold State.cutOffOrFill; split <;> rfl

@[simp] theorem refillDone_cfg : (s.refillDone).cfg = s.cfg := by
  unfold State.refillDone; split <;> rfl
@[simp] theorem refillDone_voices : (s.refillDone).voices = s.voices := by
  unfold State.refillDone; split <;> rfl
@[simp] theorem refillDone_nact : (s.refillDone).nact = s.nact := by
  unfold State.refillDone; split <;> rfl
@[simp] theorem refillDone_fxl : (s.refillDone).fxl = s.fxl := by
  unfold State.refillDone; split <;> rfl
@[simp] theorem refillDone_tph : (s.refillDone).tph = s.tph := by
  unfold State.refillDone; split <;> rfl
@[simp] theorem refillDone_fx : (s.refillDone).fx = s.fx := by
  unfold State.refillDone; split <;> rfl
@[simp] theorem refillDone_auto : (s.refillDone).auto = s.auto := by
  unfold State.refillDone; split <;> rfl
@[simp] theorem refillDone_wrIdx : (s.refillDone).wrIdx = s.wrIdx := by
  unfold State.refillDone; split <;> rfl
@[simp] theorem refillDone_rdIdx : (s.refillDone).rdIdx = s.rdIdx := by
  unfold State.refillDone; split <;> rfl
@[simp] theorem refillDone_pst : (s.refillDone).pst = s.pst := by
  unfold State.refillDone; split <;> rfl
@[simp] theorem refillDone_rq : (s.refillDone).rq = s.rq := by
  unfold State.refillDone; split <;> rfl
@[simp] theorem refillDone_fillBuf : (s.refillDone).fillBuf = s.fillBuf := by
  unfold State.refillDone; split <;> rfl
@[simp] theorem refillDone_playBuf : (s.refillDone).playBuf = s.playBuf := by
  unfold State.refillDone; split <;> rfl
@[simp] theorem refillDone_lastw : (s.refillDone).lastw = s.lastw := by
  unfold State.refillDone; split <;> rfl
@[simp] theorem refillDone_silCnt : (s.refillDone).silCnt = s.silCnt := by
  unfold State.refillDone; split <;> rfl
@[simp] theorem refillDone_pollPend : (s.refillDone).pollPend = s.pollPend := by
  unfold State.refillDone; split <;> rfl
@[simp] theorem refillDone_duty : (s.refillDone).duty = s.duty := by
  unfold State.refillDone; split <;> rfl
@[simp] theorem refillDone_underrun : (s.refillDone).underrun = s.underrun := by
  unfold State.refillDone; split <;> rfl
@[simp] theorem refillDone_freqSat : (s.refillDone).freqSat = s.freqSat := by
  unfold State.refillDone; split <;> rfl
@[simp] theorem refillDone_cmdErr : (s.refillDone).cmdErr = s.cmdErr := by
  unfold State.refillDone; split <;> rfl
@[simp] theorem refillDone_obuf : (s.refillDone).obuf = s.obuf := by
  unfold State.refillDone; split <;> rfl
@[simp] theorem refillDone_cnt : (s.refillDone).cnt = s.cnt := by
  unfold State.refillDone; split <;> rfl
@[simp] theorem refillDone_cmp : (s.refillDone).cmp = s.cmp := by
  unfold State.refillDone; split <;> rfl
@[simp] theorem refillDone_rst : (s.refillDone).rst = s.rst := by
  unfold State.refillDone; split <;> rfl
@[simp] theorem refillDone_out : (s.refillDone).out = s.out := by
  unfold State.refillDone; split <;> rfl
@[simp] theorem refillDone_turns : (s.refillDone).turns = s.turns := by
  unfold State.refillDone; split <;> rfl
@[simp] theorem refillDone_freeCtr : (s.refillDone).freeCtr = s.freeCtr := by
  unfold State.refillDone; split <;> rfl
@[simp] theorem refillDone_obufEpoch : (s.refillDone).obufEpoch = s.obufEpoch := by
  unfold State.refillDone; split <;> rfl
@[simp] theorem refillDone_refillNo : (s.refillDone).refillNo = s.refillNo := by
  unfold State.refillDone; split <;> rfl
@[simp] theorem refillDone_wordRefill : (s.refillDone).wordRefill = s.wordRefill := by
  unfold State.refillDone; split <;> rfl

/-! ## The shared operations that change two or three fields by cases, said once -/

theorem raise_underrun_flag : (s.raise .underrun).underrun = true ∧ (s.raise .underrun).out.underrun = true ∧
    (s.raise .underrun).freqSat = s.freqSat ∧ (s.raise .underrun).cmdErr = s.cmdErr := ⟨rfl, rfl, rfl, rfl⟩

@[simp] theorem raise_cmdErr_eq : s.raise .cmdErr = { s with cmdErr := true } := rfl

@[simp] theorem raise_freqSat_eq : s.raise .freqSat = { s with freqSat := true } := rfl

@[simp] theorem raise_underrun_eq :
    s.raise .underrun = { s with underrun := true, out := { s.out with underrun := true } } := rfl

/-- What taking a filled buffer for playing can do (rule R201 sub-step 1). -/
theorem acquire_cases :
    (∃ b rest, (s.pst = .prime ∨ s.pst = .wait) ∧ s.pq = b :: rest ∧
      s.acquire =
        { s with pq := rest, playBuf := b, rdIdx := 0, bst := s.bst.set b .playing, pst := .play }) ∨
    ((s.pst = .prime ∨ s.pst = .wait) ∧ s.pq = [] ∧ s.acquire = s) ∨
    ((s.pst = .off ∨ s.pst = .play) ∧ s.acquire = s) := by
  unfold State.acquire
  split
  · rename_i h
    split
    · rename_i hq; exact .inr (.inl ⟨h, hq, rfl⟩)
    · rename_i b rest hq; exact .inl ⟨b, rest, h, hq, rfl⟩
  · rename_i h
    refine .inr (.inr ⟨?_, rfl⟩)
    cases hp : s.pst <;> simp_all

/-- What emitting one word can do (rules R203, R204). -/
theorem emit_cases (v : Nat) :
    (s.rdIdx + 1 = s.cfg.b ∧ s.emit v = State.drain { s with duty := v, rdIdx := s.rdIdx + 1 }) ∨
    (s.rdIdx + 1 ≠ s.cfg.b ∧ s.emit v = { s with duty := v, rdIdx := s.rdIdx + 1 }) := by
  unfold State.emit
  split
  · exact .inl ⟨‹_›, rfl⟩
  · exact .inr ⟨‹_›, rfl⟩

end Sys2Proof.Machine
end

