-- ==== Sys2Proof/Laws/Memory.lean ====
section
/-! SUPPORT. The words of a buffer: read after write, and the canonical form. -/

namespace Sys2Proof.Machine

open Sys2Proof

@[simp] theorem memGet_memSet_same (m : WordMem) (i v : Nat) : memGet (memSet m i v) i = some v := by
  induction m with
  | nil => simp [memSet, memGet]
  | cons e m ih =>
    obtain ⟨j, x⟩ := e
    unfold memSet
    split
    · simp [memGet]
    · split
      · simp [memGet]
      · simp [memGet, *]

@[simp] theorem memGet_memSet_ne (m : WordMem) (i k v : Nat) (h : k ≠ i) :
    memGet (memSet m i v) k = memGet m k := by
  induction m with
  | nil => simp [memSet, memGet, h]
  | cons e m ih =>
    obtain ⟨j, x⟩ := e
    unfold memSet
    split
    · simp [memGet, h]
    · split
      · rename_i hij; subst hij; simp [memGet, h]
      · simp [memGet, ih]

/-- The canonical form of a list: its first index is below every other, and the rest is canonical. -/
theorem memWf_cons (e : Nat × Nat) (m : WordMem) :
    memWf (e :: m) = true ↔ (∀ f ∈ m, e.1 < f.1) ∧ memWf m = true := by
  induction m generalizing e with
  | nil => simp [memWf]
  | cons f m ih =>
    obtain ⟨i, v⟩ := e
    obtain ⟨j, y⟩ := f
    simp only [memWf, Bool.and_eq_true, decide_eq_true_eq, ih, List.forall_mem_cons]
    constructor
    · rintro ⟨h, hj, hm⟩
      exact ⟨⟨h, fun g hg => Nat.lt_trans h (hj g hg)⟩, hj, hm⟩
    · rintro ⟨⟨h, -⟩, hj, hm⟩
      exact ⟨h, hj, hm⟩

/-- Every entry after a write is an old one or the new one. -/
theorem mem_memSet {m : WordMem} {i v : Nat} {e : Nat × Nat} (h : e ∈ memSet m i v) : e ∈ m ∨ e = (i, v) := by
  induction m with
  | nil => simp_all [memSet]
  | cons f m ih =>
    obtain ⟨j, x⟩ := f
    unfold memSet at h
    split at h
    · simp only [List.mem_cons] at h ⊢; tauto
    · split at h
      · simp only [List.mem_cons] at h ⊢; tauto
      · simp only [List.mem_cons] at h ⊢
        rcases h with h | h
        · exact .inl (.inl h)
        · rcases ih h with h | h
          · exact .inl (.inr h)
          · exact .inr h

/-- Writing a word keeps the canonical form. -/
theorem memWf_memSet (m : WordMem) (i v : Nat) (h : memWf m = true) : memWf (memSet m i v) = true := by
  induction m with
  | nil => rfl
  | cons e m ih =>
    obtain ⟨j, x⟩ := e
    obtain ⟨hj, hm⟩ := (memWf_cons _ _).mp h
    unfold memSet
    split
    · rename_i hlt
      refine (memWf_cons _ _).mpr ⟨?_, h⟩
      exact List.forall_mem_cons.mpr ⟨hlt, fun f hf => Nat.lt_trans hlt (hj f hf)⟩
    · split
      · rename_i hij
        exact (memWf_cons _ _).mpr ⟨fun f hf => hij ▸ hj f hf, hm⟩
      · rename_i hlt hne
        refine (memWf_cons _ _).mpr ⟨fun f hf => ?_, ih hm⟩
        rcases mem_memSet hf with hf | rfl
        · exact hj f hf
        · change j < i; omega

variable (s : State)

@[simp] theorem wordAt_setWord_same (b : BufId) (i v : Nat) : (s.setWord b i v).wordAt b i = v := by
  simp [State.wordAt]

@[simp] theorem wordAt_setWord_other (b c : BufId) (i k v : Nat) (h : b ≠ c ∨ k ≠ i) :
    (s.setWord b i v).wordAt c k = s.wordAt c k := by
  by_cases hb : b = c
  · subst hb
    have hk : k ≠ i := by tauto
    simp [State.wordAt, hk]
  · simp [State.wordAt, hb]

/-- What a word reads as depends only on the buffers, the word width and the reset count. -/
theorem wordAt_congr (t : State) (b : BufId) (i : Nat) (ho : t.obuf = s.obuf) (hc : t.cfg = s.cfg)
    (he : t.obufEpoch = s.obufEpoch) : t.wordAt b i = s.wordAt b i := by
  simp [State.wordAt, ho, hc, he]

/-- The buffers' words are in canonical form right after reset, of any configuration. -/
theorem memWf_resetOf (c : Config) (b : BufId) : memWf ((State.resetOf c).obuf.get b) = true := by
  cases b <;> rfl

/-- Writing a word keeps every buffer's words in canonical form. -/
theorem memWf_setWord (s : State) (b : BufId) (i v : Nat) (h : ∀ c, memWf (s.obuf.get c) = true) (c : BufId) :
    memWf ((s.setWord b i v).obuf.get c) = true := by
  cases b <;> cases c
  · exact memWf_memSet _ _ _ (h .b0)
  · exact h .b1
  · exact h .b0
  · exact memWf_memSet _ _ _ (h .b1)

end Sys2Proof.Machine
end

