-- ==== Sys2Proof/Laws/Ops.lean ====
section
/-! SUPPORT. What each engine step can do, said once: if the step answers a next state, one of these cases
holds. -/

namespace Sys2Proof.Machine

open Sys2Proof

variable {s t : State}

/-! ## The playback engine -/

/-- The cases of SampleTick's sub-step 2 (rule R201). -/
theorem tickCase_next (h : s.tickCase = .next t) :
    (s.pst = .play ∧ ∃ v, s.obufRead s.playBuf s.rdIdx = some v ∧ t = s.emit v) ∨
    (s.pst = .prime ∧ s.lastw = true ∧ t = s.goIdle) ∨
    (s.pst = .prime ∧ s.lastw = false ∧ t = { s with duty := s.cfg.idleDuty }) ∨
    (s.pst = .wait ∧ s.lastw = true ∧ t = s.goIdle) ∨
    (s.pst = .wait ∧ s.lastw = false ∧ s.cfg.nbuf = 2 ∧ t = s.raise .underrun) ∨
    (s.pst = .wait ∧ s.lastw = false ∧ s.cfg.nbuf ≠ 2 ∧ t = s) ∨
    (s.pst = .off ∧ t = { s with duty := s.cfg.idleDuty }) := by
  unfold State.tickCase at h
  cases hp : s.pst <;> simp only [hp] at h
  · cases h; simp
  · cases hl : s.lastw <;> simp [hl] at h <;> simp [h]
  · cases hr : s.obufRead s.playBuf s.rdIdx with
    | none => simp [hr] at h
    | some v => simp only [hr] at h; cases h; simp
  · cases hl : s.lastw
    · simp only [hl, Bool.false_eq_true, if_false] at h
      split at h <;> cases h <;> simp_all
    · simp [hl] at h; simp [h]

/-- SampleTick is its sub-steps in order (rule R201). -/
theorem sampleTick_next (h : sampleTick s = .next t) : ∃ u, s.acquire.tickCase = .next u ∧ t = u.strobe := by
  unfold sampleTick at h
  split at h
  · rename_i u hu; cases h; exact ⟨u, hu, rfl⟩
  · cases h
  · cases h

/-- The period boundary is SampleTick with `CNT` and `CMP` reloaded (rule R214). -/
theorem periodBoundary_next (h : periodBoundary s = .next t) :
    ∃ u, sampleTick s = .next u ∧ t = { u with cnt := 0, cmp := u.duty } := by
  unfold periodBoundary at h
  split at h
  · rename_i u hu; cases h; exact ⟨u, hu, rfl⟩
  · cases h
  · cases h

/-- A clock cycle counts, or is the period boundary (rule R214). -/
theorem pwmCycle_next (h : pwmCycle s = .next t) :
    (s.cnt + 1 < s.cfg.dutyMax ∧ t = { s with cnt := s.cnt + 1 }) ∨
    (¬ s.cnt + 1 < s.cfg.dutyMax ∧ periodBoundary s = .next t) := by
  unfold pwmCycle at h
  split at h
  · rename_i hc; cases h; exact .inl ⟨hc, rfl⟩
  · rename_i hc; exact .inr ⟨hc, h⟩

/-! ## The refill engine -/

/-- RefillSample writes the sample MixSample gave (rule R175). -/
theorem refillSample_next (h : s.refillSample = .next t) :
    ∃ d, s.mixSample = .ok d ∧ s.obufHas s.fillBuf s.wrIdx = true ∧ t = s.refillWrite d := by
  unfold State.refillSample at h
  split at h
  · cases h
  · rename_i d hd
    split at h
    · rename_i hb; cases h; exact ⟨d, hd, hb, rfl⟩
    · cases h

/-- What sub-step 4 of RefillStart can do (rules R170, R172). -/
theorem cutOffOrFill_cases (s : State) (k : BufId) :
    (s.nact = 0 ∧ s.silCnt = s.cfg.silenceLimit ∧ s.cutOffOrFill k = { s with rq := [], lastw := true }) ∨
    (¬ (s.nact = 0 ∧ s.silCnt = s.cfg.silenceLimit) ∧
      s.cutOffOrFill k =
        { s with
          fillBuf := k, fillBusy := true, wrIdx := 0, bst := s.bst.set k .filling,
          refillNo := s.refillNo.set k (s.refillNo.get k + 1) }) := by
  unfold State.cutOffOrFill
  split
  · rename_i h; exact .inl ⟨h.1, h.2, rfl⟩
  · rename_i h; exact .inr ⟨h, rfl⟩

/-- What RefillDone can do (rule R178). -/
theorem refillDone_cases (s : State) :
    (s.sst = .run ∧
      s.refillDone = { s with fillBusy := false, bst := s.bst.set s.fillBuf .ready, pq := s.pq ++ [s.fillBuf] }) ∨
    (s.sst ≠ .run ∧ s.refillDone = { s with fillBusy := false, bst := s.bst.set s.fillBuf .empty, sst := .idle }) := by
  unfold State.refillDone
  split
  · exact .inl ⟨‹_›, rfl⟩
  · exact .inr ⟨‹_›, rfl⟩

/-- The refill engine's turn is one of its three steps, or passes (rule R169). -/
theorem refillTurn_next (h : refillTurn s = .next t) :
    (s.refillStartEnabled = true ∧ ∃ k rest, s.rq = k :: rest ∧ t = s.refillStart k rest) ∨
    (s.refillStartEnabled = false ∧ s.refillSampleEnabled = true ∧ s.refillSample = .next t) ∨
    (s.refillStartEnabled = false ∧ s.refillSampleEnabled = false ∧ s.refillDoneEnabled = true ∧
      t = s.refillDone) ∨
    (s.refillStartEnabled = false ∧ s.refillSampleEnabled = false ∧ s.refillDoneEnabled = false ∧ t = s) := by
  unfold refillTurn at h
  cases h1 : s.refillStartEnabled
  · cases h2 : s.refillSampleEnabled
    · cases h3 : s.refillDoneEnabled
      · simp [h1, h2, h3] at h; simp [h]
      · simp [h1, h2, h3] at h; simp [h]
    · simp [h1, h2] at h; simp [h]
  · simp only [h1, if_true] at h
    split at h
    · rename_i hq; simp [State.refillStartEnabled, hq] at h1
    · rename_i k rest hq; cases h; exact .inl ⟨rfl, k, rest, hq, rfl⟩

/-! ## The mixer -/

/-- MixSample gives the idle value in silence, else the clamped effect of the normalised sum (rule R137). -/
theorem mixSample_ok {d : Nat} (h : s.mixSample = .ok d) :
    (s.nact = 0 ∧ d = s.cfg.idleDuty) ∨
    (s.nact ≠ 0 ∧ ∃ acc, mixSum s.cfg s.voices = some acc ∧
      effectStage s.cfg s.fxl s.tph (normalise acc s.nact) = some d) := by
  unfold State.mixSample at h
  split at h
  · rename_i hn; cases h; exact .inl ⟨hn, rfl⟩
  · rename_i hn
    split at h
    · cases h
    · rename_i acc hacc
      split at h
      · cases h
      · rename_i d' hd; cases h; exact .inr ⟨hn, acc, hacc, hd⟩

/-- The effect stage is reshape, tremolo, clamp (rules R143, R148). -/
theorem effectStage_some {c : Config} {fxl : BitVec 2} {tph m d : Nat} (h : effectStage c fxl tph m = some d) :
    ∃ r y, applyReshape c fxl m = some r ∧ applyTremolo c fxl tph r = some y ∧ d = min y c.dutyMax := by
  simp only [effectStage, Option.bind_eq_some_iff, Option.map_eq_some_iff] at h
  obtain ⟨r, hr, y, hy, rfl⟩ := h
  exact ⟨r, y, hr, hy, rfl⟩

/-- A gain word is one the default `TremGain` reaches (rules R6, R145). -/
theorem gainWords_iff (c : Config) (hrom : c.rom.length = c.l) (h1 : 1 ≤ c.tmod) (ht : c.tmod ≤ c.l * 2 ^ c.fw)
    (p : Nat → Prop) : (∀ g ∈ c.gainWords, p g) ↔ ∀ t < c.tmod, ∃ g, lookup c t = some g ∧ p g := by
  have hpos : 0 < 2 ^ c.fw := Nat.two_pow_pos _
  constructor
  · intro h t htt
    have hi : t / 2 ^ c.fw < c.rom.length := by
      rw [hrom]; exact (Nat.div_lt_iff_lt_mul hpos).mpr (by omega)
    have hj : t / 2 ^ c.fw < (c.tmod - 1) / 2 ^ c.fw + 1 := Nat.lt_succ_of_le (Nat.div_le_div_right (by omega))
    refine ⟨c.rom[t / 2 ^ c.fw], by simp [lookup, romRead, hi], h _ ?_⟩
    exact List.mem_take_iff_getElem.mpr ⟨t / 2 ^ c.fw, by omega, rfl⟩
  · intro h g hg
    obtain ⟨i, hi, rfl⟩ := List.mem_take_iff_getElem.mp hg
    have hile : i ≤ (c.tmod - 1) / 2 ^ c.fw := by omega
    have hlt : i * 2 ^ c.fw < c.tmod := by
      have := Nat.mul_le_of_le_div _ _ _ hile
      omega
    obtain ⟨g, hg, hp⟩ := h _ hlt
    simp only [lookup, romRead, Nat.mul_div_cancel _ hpos] at hg
    rw [List.getElem?_eq_getElem (by omega)] at hg
    cases hg
    exact hp

/-- Rules R6, R145: in a configuration whose effect parameters are legal the gain is total and at most `GDEN`. -/
theorem tremGain_of_effectsOk {c : Config} (h : c.effectsOk = true) (hrom : c.rom.length = c.l) {t : Nat}
    (ht : t < c.tmod) : ∃ g, tremGain c t = some g ∧ g ≤ c.gden := by
  simp only [Config.effectsOk, Bool.and_eq_true, decide_eq_true_eq] at h
  obtain ⟨⟨⟨⟨h1, -⟩, -⟩, hg⟩, -⟩ := h
  unfold tremGain
  split at hg <;> rename_i heq <;> simp only [heq, Bool.and_eq_true, decide_eq_true_eq, List.all_eq_true] at hg ⊢
  · exact (gainWords_iff c hrom h1 hg.1 (· ≤ c.gden)).mp hg.2 t ht
  · rename_i gain
    have hlt : t < gain.length := hg.1 ▸ ht
    exact ⟨gain[t], List.getElem?_eq_getElem hlt, hg.2 _ (List.getElem_mem hlt)⟩

/-- Rules R6, R8: with the default functions the check asks no more than the legal ranges do. -/
theorem effectsOk_default_iff {c : Config} (hrom : c.rom.length = c.l) (hg : c.tremGain = .romAtPhase)
    (hr : c.reshape = .isqrtPeak) :
    c.effectsOk = true ↔ 1 ≤ c.tmod ∧ c.tstep < c.tmod ∧ 1 ≤ c.gden ∧
      ∀ t < c.tmod, ∃ g, tremGain c t = some g ∧ g ≤ c.gden := by
  have hpos : 0 < 2 ^ c.fw := Nat.two_pow_pos _
  simp only [Config.effectsOk, tremGain, hg, hr, Bool.and_eq_true, decide_eq_true_eq, List.all_eq_true, and_true]
  constructor
  · rintro ⟨⟨⟨h1, h2⟩, h3⟩, h4, h5⟩
    exact ⟨h1, h2, h3, (gainWords_iff c hrom h1 h4 (· ≤ c.gden)).mp h5⟩
  · rintro ⟨h1, h2, h3, h4⟩
    have hle : c.tmod ≤ c.l * 2 ^ c.fw := by
      obtain ⟨g, hg, -⟩ := h4 (c.tmod - 1) (by omega)
      obtain ⟨hi, -⟩ := List.getElem?_eq_some_iff.mp hg
      rw [hrom] at hi
      have := (Nat.div_lt_iff_lt_mul hpos).mp hi
      omega
    exact ⟨⟨⟨h1, h2⟩, h3⟩, hle, (gainWords_iff c hrom h1 hle (· ≤ c.gden)).mpr h4⟩
/-! ## Turns and steps -/

/-- A step is the next turn taken in the state the turn begins in (rules R12, R71). -/
theorem step_eq (s : State) : step s = takeTurn s.nextTurn s.beginStep := rfl

/-- The turn presented is the turn taken. -/
theorem step_present (u : Turn) (s : State) :
    step (Safety.present u s) =
      takeTurn u { s with turns := s.turns, freeCtr := s.freeCtr + 1, out := Pulses.none } := rfl

/-- What a turn can do (rules R83, R169, R200, R214, R270). -/
theorem takeTurn_next {u : Turn} (h : takeTurn u s = .next t) :
    (u = .rstEdge true ∧ t = s.resetEdge) ∨
    (u = .rstEdge false ∧ t = { s with rst := false }) ∨
    (s.rst = true ∧ (∀ level, u ≠ .rstEdge level) ∧ t = s) ∨
    (s.rst = false ∧ ∃ w, u = .command w ∧ exec (decode w) s = .next t) ∨
    (s.rst = false ∧ u = .refill ∧ refillTurn s = .next t) ∨
    (s.rst = false ∧ u = .sampleTick ∧ periodBoundary s = .next t) ∨
    (s.rst = false ∧ u = .pwmCycle ∧ pwmCycle s = .next t) := by
  cases u with
  | rstEdge level =>
    cases level <;> simp [takeTurn, rstTurn] at h <;> simp [h]
  | command w =>
    cases hr : s.rst <;> simp [takeTurn, State.cmdReady, hr, commandTurn] at h <;> simp [h]
  | refill => cases hr : s.rst <;> simp [takeTurn, hr] at h <;> simp [h]
  | sampleTick => cases hr : s.rst <;> simp [takeTurn, hr] at h <;> simp [h]
  | pwmCycle => cases hr : s.rst <;> simp [takeTurn, hr] at h <;> simp [h]

end Sys2Proof.Machine
end

