-- ==== Sys2Proof/Laws/PerInstr.lean ====
section
/-! SUPPORT. A fact about every instruction as syntax, one lemma per constructor: its word carries its opcode in
bits 31:28 and the instruction is well formed. -/

namespace Sys2Proof.Laws.EncodedOpcode

open Sys2Proof

/-- The opcode field of the instruction's word is its row's opcode, and its operands are well formed. -/
def Statement (i : Instr) : Prop := opField (encode i) = i.opcode ∧ i.wellFormed = true

theorem opField_assemble (op ch : BitVec 4) (arg : BitVec 24) : opField (assemble op ch arg) = op := by
  apply BitVec.eq_of_getLsbD_eq
  intro k hk
  have h1 : arg.getLsbD (28 + k) = false := BitVec.getLsbD_of_ge _ _ (by omega)
  have h2 : ch.getLsbD (28 + k - 24) = false := BitVec.getLsbD_of_ge _ _ (by omega)
  have h3 : 28 + k < 32 := by omega
  simp [opField, assemble, hk, h1, h2, h3]

theorem chField_assemble (op ch : BitVec 4) (arg : BitVec 24) : chField (assemble op ch arg) = ch := by
  apply BitVec.eq_of_getLsbD_eq
  intro k hk
  have h2 : 24 + k < 28 := by omega
  have h3 : 24 + k < 32 := by omega
  simp [chField, assemble, hk, h2, h3]

theorem argField_assemble (op ch : BitVec 4) (arg : BitVec 24) : argField (assemble op ch arg) = arg := by
  apply BitVec.eq_of_getLsbD_eq
  intro k hk
  have h1 : k < 28 := by omega
  have h3 : k < 32 := by omega
  simp [argField, assemble, hk, h1, h3]

theorem nop : Statement .nop := ⟨opField_assemble _ _ _, rfl⟩
theorem vfreq (ch : BitVec 4) (freq : FreqWord) : Statement (.vfreq ch freq) := ⟨opField_assemble _ _ _, rfl⟩
theorem fxset (flags : BitVec 2) : Statement (.fxset flags) := ⟨opField_assemble _ _ _, rfl⟩
theorem start : Statement .start := ⟨opField_assemble _ _ _, rfl⟩
theorem stop : Statement .stop := ⟨opField_assemble _ _ _, rfl⟩
theorem poll : Statement .poll := ⟨opField_assemble _ _ _, rfl⟩
theorem mode (auto : BitVec 1) : Statement (.mode auto) := ⟨opField_assemble _ _ _, rfl⟩
theorem rdstat : Statement .rdstat := ⟨opField_assemble _ _ _, rfl⟩
theorem clrerr (mask : BitVec 3) : Statement (.clrerr mask) := ⟨opField_assemble _ _ _, rfl⟩
theorem reserved9 : Statement .reserved9 := ⟨opField_assemble _ _ _, rfl⟩
theorem reservedA : Statement .reservedA := ⟨opField_assemble _ _ _, rfl⟩
theorem reservedB : Statement .reservedB := ⟨opField_assemble _ _ _, rfl⟩
theorem reservedC : Statement .reservedC := ⟨opField_assemble _ _ _, rfl⟩
theorem reservedD : Statement .reservedD := ⟨opField_assemble _ _ _, rfl⟩
theorem reservedE : Statement .reservedE := ⟨opField_assemble _ _ _, rfl⟩
theorem reservedF : Statement .reservedF := ⟨opField_assemble _ _ _, rfl⟩

end Sys2Proof.Laws.EncodedOpcode
end

