-- ==== Sys2Proof/Tests/Slice0.lean ====
section
/-! SUPPORT. Tests of one step each, with results taken from the spec's examples and vectors
(95_test_vectors.md and the rules named), and a witness for the hypotheses of every statement that has some. -/

namespace Sys2Proof.Tests

open Sys2Proof Sys2Proof.Machine Sys2Proof.Safety

/-! ## Decoding: one written-out word for every row of rule R85 -/

theorem test_decode_nop : decode 0x0ABCDEF1#32 = .nop := by decide
theorem test_decode_vfreq : decode 0x10006A9A#32 = .vfreq 0 27290 := by decide
theorem test_decode_vfreq_channel : decode 0x1F000001#32 = .vfreq 15 1 := by decide
theorem test_decode_fxset : decode 0x2F00FFFE#32 = .fxset 2 := by decide
theorem test_decode_start : decode 0x30000000#32 = .start := by decide
theorem test_decode_stop : decode 0x40000000#32 = .stop := by decide
theorem test_decode_poll : decode 0x50000000#32 = .poll := by decide
theorem test_decode_mode : decode 0x60FFFFFE#32 = .mode 0 := by decide
theorem test_decode_rdstat : decode 0x70000000#32 = .rdstat := by decide
theorem test_decode_clrerr : decode 0x80000004#32 = .clrerr 4 := by decide
theorem test_decode_reserved9 : decode 0x90000000#32 = .reserved9 := by decide
theorem test_decode_reservedA : decode 0xA0000000#32 = .reservedA := by decide
theorem test_decode_reservedB : decode 0xB0000000#32 = .reservedB := by decide
theorem test_decode_reservedC : decode 0xC0000000#32 = .reservedC := by decide
theorem test_decode_reservedD : decode 0xD0000000#32 = .reservedD := by decide
theorem test_decode_reservedE : decode 0xE0000000#32 = .reservedE := by decide
theorem test_decode_reservedF : decode 0xF1234567#32 = .reservedF := by decide
theorem test_encode_vfreq : encode (.vfreq 1 16) = 0x11000010#32 := by decide
theorem test_encode_clrerr : encode (.clrerr 7) = 0x80000007#32 := by decide
theorem test_decodeTableWord : decodeTableWord 32 0x6A000001 = some (.mode 1) := by decide

/-! ## WellFormed: an ill-formed configuration for each check (rules R6, R8, R105) -/

theorem test_standard_ok : Config.standard.ok = true := by decide +kernel
theorem test_tiny_ok : Config.tiny.ok = true := by decide
theorem test_counts_no_voice : ({ Config.tiny with nch := 0 } : Config).countsOk = false := by decide
theorem test_counts_too_many_voices : ({ Config.tiny with nch := 17 } : Config).countsOk = false := by decide
theorem test_counts_short_table : ({ Config.tiny with l := 1 } : Config).countsOk = false := by decide
theorem test_counts_empty_buffer : ({ Config.tiny with b := 0 } : Config).countsOk = false := by decide
theorem test_counts_three_buffers : ({ Config.tiny with nbuf := 3 } : Config).countsOk = false := by decide
theorem test_counts_silence_low : ({ Config.tiny with silenceLimit := 0 } : Config).countsOk = false := by decide
theorem test_counts_silence_high : ({ Config.tiny with silenceLimit := 16 } : Config).countsOk = false := by decide
theorem test_amplitudes_peak_zero : ({ Config.tiny with peak := 0 } : Config).amplitudesOk = false := by decide
theorem test_amplitudes_peak_high : ({ Config.tiny with peak := 16 } : Config).amplitudesOk = false := by decide
theorem test_amplitudes_width : ({ Config.tiny with w := 3 } : Config).amplitudesOk = false := by decide
theorem test_amplitudes_idle : ({ Config.tiny with idleDuty := 16 } : Config).amplitudesOk = false := by decide
theorem test_rates_no_rate : ({ Config.tiny with fs := 0 } : Config).ratesOk = false := by decide
theorem test_rates_no_fraction : ({ Config.tiny with fw := 0 } : Config).ratesOk = false := by decide
theorem test_rates_frequency_format : ({ Config.tiny with fq := 24 } : Config).ratesOk = false := by decide
theorem test_effects_modulus : ({ Config.tiny with tmod := 0 } : Config).effectsOk = false := by decide
theorem test_effects_step : ({ Config.tiny with tstep := 128 } : Config).effectsOk = false := by decide
theorem test_effects_denominator : ({ Config.tiny with gden := 0 } : Config).effectsOk = false := by decide
theorem test_effects_gain_high : ({ Config.tiny with gden := 14 } : Config).effectsOk = false := by decide
/-- Only the table words that `TremGain` reaches on `0..TMOD-1` count (rules R6, R8, R145). -/
theorem test_effects_gain_reached :
    ({ Config.tiny with tmod := 16, tstep := 0, gden := 8 } : Config).ok = true := by decide
theorem test_effects_gain_reached_high :
    ({ Config.tiny with tmod := 17, tstep := 0, gden := 8 } : Config).effectsOk = false := by decide
theorem test_effects_gain_partial :
    ({ Config.tiny with tremGain := .table [15] } : Config).effectsOk = false := by decide
theorem test_effects_reshape_partial :
    ({ Config.tiny with reshape := .table [0] } : Config).effectsOk = false := by decide
theorem test_rom_length : ({ Config.tiny with rom := [8, 13] } : Config).romOk = false := by decide
theorem test_rom_range : ({ Config.tiny with rom := [8, 16, 15, 13, 8, 2, 0, 2] } : Config).romOk = false := by
  decide
theorem test_rom_fixed_point : ({ Config.tiny with rom := [7, 13, 15, 13, 8, 2, 0, 2] } : Config).romOk = false := by
  decide
theorem test_rom_twelve : ({ Config.tiny with
    l := 12, rom := [8, 11, 14, 15, 14, 11, 8, 4, 1, 0, 1, 4] } : Config).romOk = true := by decide
theorem test_timing : ({ Config.tiny with refillTicksMax := 5 } : Config).ok = false := by decide

/-! ## States of the TINY configuration -/

/-- Reset. -/
def base : State := State.resetOf Config.tiny

/-- An outcome's state, the given one where there is none. -/
def nextOr (d : State) (o : Host.Outcome State Fault Refusal) : State :=
  match o with
  | .next t => t
  | .fault _ => d
  | .refused _ => d

/-- Whether an outcome is a next state. -/
def isNext (o : Host.Outcome State Fault Refusal) : Bool :=
  match o with
  | .next _ => true
  | .fault _ => false
  | .refused _ => false

/-- The state after a turn. -/
def after (u : Turn) (s : State) : State := nextOr base (step (present u s))

theorem step_after {u : Turn} {s : State} (h : isNext (step (present u s)) = true) :
    step (present u s) = .next (after u s) := by
  unfold after
  revert h
  cases step (present u s) with
  | next t => intro _; rfl
  | fault r => intro h; cases h
  | refused r => intro h; cases h

/-- The first window of a voice at step 16 (rule R150, vector T-MIX-5). -/
def window : WordMem := [(0, 8), (1, 13), (2, 15), (3, 13)]

/-- The refill numbers of a window's words when the buffer's first refill wrote them. -/
def firstRefill : WordMem := [(0, 1), (1, 1), (2, 1), (3, 1)]

/-- The voices with voice 0 at frequency word 32, step 16, and the given phase. -/
def voicesAt (phase : Nat) : List Voice := [⟨32, 16, true, phase⟩, ⟨0, 0, false, 0⟩]

/-- Right after `vfreq 0, 32; start`. -/
def started : State :=
  { base with
    voices := [⟨32, 0, false, 0⟩, ⟨0, 0, false, 0⟩], sst := .run, pst := .prime, rq := [.b0, .b1], pollPend := true }

/-- Buffer 0 is being filled, with the first `n` words of the window written. -/
def filling (n : Nat) : State :=
  { started with
    voices := voicesAt (16 * n), nact := 1, tph := 16 * n, rq := [.b1], pollPend := false, fillBusy := true,
    fillBuf := .b0, wrIdx := n, bst := ⟨.filling, .empty⟩, obuf := ⟨window.take n, []⟩,
    refillNo := ⟨1, 0⟩, wordRefill := ⟨firstRefill.take n, []⟩ }

/-- A refill of buffer 0 that STOP has caught. -/
def stopping : State := { filling 4 with sst := .stopping, pst := .off, rq := [] }

/-- Buffer 0 is played, `n` words of it are out, and buffer 1 waits to be filled. -/
def playing (n : Nat) : State :=
  { started with
    voices := voicesAt 64, nact := 1, tph := 64, pst := .play, rq := [.b1], pollPend := false, rdIdx := n,
    bst := ⟨.playing, .empty⟩, obuf := ⟨window, []⟩, refillNo := ⟨1, 0⟩, wordRefill := ⟨firstRefill, []⟩ }

/-- Buffer 0 has been filled and not yet taken. -/
def ready (p : PlayState) : State :=
  { playing 0 with pst := p, bst := ⟨.ready, .empty⟩, pq := [.b0] }

/-- Both buffers are empty in the middle of a run: the next tick is an underrun. -/
def starved : State :=
  { playing 0 with pst := .wait, bst := ⟨.empty, .empty⟩, rq := [.b0, .b1], duty := 13 }

/-- The same with nothing more to come: the next tick ends the run. -/
def lastTick : State := { starved with rq := [], lastw := true, silCnt := 2 }

theorem inv_base : Inv base := inv_of_check (by decide)
theorem inv_started : Inv started := inv_of_check (by decide)
theorem inv_filling_first : Inv (filling 0) := inv_of_check (by decide)
theorem inv_filling_last : Inv (filling 3) := inv_of_check (by decide)
theorem inv_filling_done : Inv (filling 4) := inv_of_check (by decide)
theorem inv_stopping : Inv stopping := inv_of_check (by decide)
theorem inv_playing_first : Inv (playing 0) := inv_of_check (by decide)
theorem inv_playing_last : Inv (playing 3) := inv_of_check (by decide)
theorem inv_ready : Inv (ready .wait) := inv_of_check (by decide)
/-- I6: a word that an earlier refill left in a buffer now ready breaks the invariants. -/
theorem test_stale_window : invCheck { ready .wait with refillNo := ⟨2, 0⟩ } = false := by decide
theorem inv_starved : Inv starved := inv_of_check (by decide)
theorem inv_lastTick : Inv lastTick := inv_of_check (by decide)

/-! ## Commands (T-SYS, T-PH, T-SCH) -/

/-- T-SYS-1. -/
theorem test_nop : nextOr started (exec .nop base) = base := by decide
/-- T-PH-4. -/
theorem test_vfreq_saturates : (nextOr started (exec (.vfreq 0 256) base)).status = 0x00004002#32 := by decide
/-- T-PH-5. -/
theorem test_vfreq_no_voice : (nextOr started (exec (.vfreq 2 5) base)).status = 0x00004004#32 := by decide
/-- T-MIX-8. -/
theorem test_fxset : (nextOr started (exec (decode 0x2F00FFFE#32) base)).status = 0x00006000#32 := by decide
/-- T-SCH-1. -/
theorem test_start : (nextOr base (exec .start base)).status = 0x0002C050#32 := by decide
/-- T-SCH-12. -/
theorem test_start_cfgerr : (nextOr base
    (exec .start (State.resetOf { Config.tiny with refillTicksMax := 5 }))).status = 0x0000400C#32 := by decide
/-- T-SCH-4. -/
theorem test_stop : (nextOr base (exec .stop started)).status = 0x00004000#32 := by decide
/-- T-SCH-6, whose `stop` leaves the refill of buffer 1 going. -/
theorem test_stop_filling : (nextOr base
    (exec .stop { playing 1 with
      rq := [], fillBusy := true, fillBuf := .b1, wrIdx := 1, bst := ⟨.playing, .filling⟩ })).status =
    0x00004620#32 := by decide
/-- P6: the STATUS word `0x00018090` after its first poll. -/
theorem test_poll : (nextOr base (exec .poll { playing 2 with auto := false })).status = 0x00018090#32 := by decide
/-- T-SCH-5. -/
theorem test_poll_idle : nextOr started (exec .poll base) = base := by decide
/-- T-SCH-8. -/
theorem test_mode : (nextOr started (exec (decode 0x60FFFFFE#32) base)).status = 0x00000000#32 := by decide
/-- T-SCH-7. -/
theorem test_mode_running : (nextOr base (exec (.mode 0) started)).status = 0x0002C054#32 := by decide
/-- T-SYS-2. -/
theorem test_rdstat : (nextOr started (exec .rdstat base)).out.rsp = some 0x00004000#32 := by decide
/-- T-SYS-5. -/
theorem test_clrerr : (nextOr base (exec (.clrerr 4) { started with cmdErr := true })).status = 0x0002C050#32 := by
  decide
/-- T-SYS-9, the first and the last. -/
theorem test_reserved9 : (nextOr started (exec .reserved9 base)).status = 0x00004004#32 := by decide
theorem test_reservedA : (nextOr started (exec .reservedA base)).cmdErr = true := by decide
theorem test_reservedB : (nextOr started (exec .reservedB base)).cmdErr = true := by decide
theorem test_reservedC : (nextOr started (exec .reservedC base)).cmdErr = true := by decide
theorem test_reservedD : (nextOr started (exec .reservedD base)).cmdErr = true := by decide
theorem test_reservedE : (nextOr started (exec .reservedE base)).cmdErr = true := by decide
theorem test_reservedF : (nextOr started (exec .reservedF base)).status = 0x00004004#32 := by decide

/-! ## The engines (T-PH, T-MIX, R150, T-PWM) -/

/-- T-PH-2: just below and at the sample rate. -/
theorem test_stepOf : stepOf Config.standard 4095999 = 32767992 ∧ stepOf Config.standard 4096000 = 32767999 := by
  decide +kernel
/-- T-PH-6. -/
theorem test_phaseAdv : phaseAdv Config.tiny 120 16 = 8 ∧ phaseAdv Config.tiny 127 127 = 126 ∧
    phaseAdv Config.tiny 112 16 = 0 ∧ phaseAdv Config.tiny 111 16 = 127 := by decide
/-- T-ROM-11. -/
theorem test_lookup : lookup Config.tiny 15 = some 8 ∧ lookup Config.tiny 16 = some 13 ∧
    lookup Config.tiny 127 = some 2 := by decide
/-- T-MIX-4. -/
theorem test_normalise : normalise 21 2 = 11 ∧ normalise 16 3 = 5 ∧ normalise 3998 4 = 1000 ∧
    normalise 3997 4 = 999 := by decide
/-- T-MIX-5. -/
theorem test_reshape : reshape Config.tiny 8 = some 10 ∧ reshape Config.tiny 2 = some 5 := by decide
/-- R150, the second sample of the four settings. -/
theorem test_effectStage : effectStage Config.tiny 0 16 13 = some 13 ∧ effectStage Config.tiny 1 16 13 = some 11 ∧
    effectStage Config.tiny 2 16 13 = some 13 ∧ effectStage Config.tiny 3 0 8 = some 5 := by decide
/-- T-MIX-7. -/
theorem test_clamp : effectStage { Config.tiny with reshape := .table (List.replicate 16 17) } 2 0 3 = some 15 := by
  decide
/-- R170: the first step of P3's first `run`. -/
theorem test_refillStart : nextOr base (refillTurn started) = filling 0 := by decide
/-- R175: the second. -/
theorem test_refillSample : nextOr base (refillTurn (filling 0)) = filling 1 := by decide
/-- R178: the sixth, which hands the window over. -/
theorem test_refillDone : (nextOr base (refillTurn (filling 4))).pq = [.b0] ∧
    (nextOr base (refillTurn (filling 4))).bst = ⟨.ready, .empty⟩ := by decide
/-- R165. -/
theorem test_refillDone_discards : (nextOr base (refillTurn stopping)).sst = .idle ∧
    (nextOr base (refillTurn stopping)).bst = ⟨.empty, .empty⟩ := by decide
/-- T-PWM-5. -/
theorem test_drain : (nextOr base (sampleTick (playing 3))).out =
    { Pulses.none with drained := some .b0, dutyStrobe := true } ∧
    (nextOr base (sampleTick (playing 3))).rq = [.b1, .b0] := by decide
/-- T-PWM-5, the next tick: acquired and emitted at once. -/
theorem test_hand_off : (nextOr base (sampleTick (ready .wait))).duty = 8 ∧
    (nextOr base (sampleTick (ready .wait))).rdIdx = 1 := by decide
/-- R217: an underrun tick. -/
theorem test_underrun : (nextOr base (sampleTick starved)).underrun = true ∧
    (nextOr base (sampleTick starved)).duty = 13 := by decide
/-- P3: the first of its last two ticks. -/
theorem test_last_window : (nextOr base (sampleTick lastTick)).status = 0x00204000#32 := by decide
/-- T-PWM-6. -/
theorem test_pwm : ({ base with cmp := 13, cnt := 12 } : State).pwmOut = true ∧
    ({ base with cmp := 13, cnt := 13 } : State).pwmOut = false := by decide
/-- T-RST-3. -/
theorem test_reset_edge : (nextOr base (step (present (.rstEdge true)
    { starved with cfg := { Config.tiny with idleDuty := 3 } }))).duty = 3 := by decide
/-- P7: the first command of the default machine. -/
theorem test_withFetchWord : (nextOr base (step (State.reset.withFetchWord 32 0x10006A9A))).vfreqAt 0 =
    some 27290 := by decide +kernel

/-! ## Witnesses: for each statement with hypotheses, states and operands that meet them all -/

theorem witness_EncodedInstructionsDecodeBack : (Instr.vfreq 15 0xFFFFFF).wellFormed = true := by decide

theorem witness_StepRunsThePresentedCommand :
    (present (.command 0x30000000) base).turns = .command 0x30000000 :: base.turns ∧
    (present (.command 0x30000000) base).cmdReady = true := by decide

theorem witness_TurnsRunTheirAgents : started.rst = false := by decide

theorem witness_NothingIsTakenWhileInReset : ({ started with rst := true } : State).rst = true ∧
    (∀ level, Turn.refill ≠ .rstEdge level) ∧ (∀ level, Turn.command 0x30000000 ≠ .rstEdge level) := by decide

theorem witness_NopChangesNothing : opField 0x0ABCDEF1#32 = 0 := by decide

/-- The last voice that exists, unsaturated and saturated, and the first that does not. -/
theorem witness_VfreqWritesOnlyItsPendingWord : base.voices.length = base.cfg.nch ∧
    (1 : BitVec 4).toNat < base.cfg.nch ∧ base.cfg.nch ≤ (2 : BitVec 4).toNat ∧
    stepRaw base.cfg 255 < base.cfg.phmod ∧ base.cfg.phmod ≤ stepRaw base.cfg 256 := by decide

/-- Refused, from idle with one and with two buffers, ignored. -/
theorem witness_StartOnlyFromIdle :
    (State.resetOf { Config.tiny with refillTicksMax := 5 }).cfg.cfgErr = true ∧
    (base.cfg.cfgErr = false ∧ base.sst = .idle ∧ base.cfg.nbuf = 2) ∧
    ((State.resetOf { Config.tiny with nbuf := 1 }).cfg.cfgErr = false ∧
      (State.resetOf { Config.tiny with nbuf := 1 }).sst = .idle ∧
      (State.resetOf { Config.tiny with nbuf := 1 }).cfg.nbuf = 1) ∧
    (started.cfg.cfgErr = false ∧ started.sst ≠ .idle) ∧
    (stopping.cfg.cfgErr = false ∧ stopping.sst ≠ .idle) := by decide

/-- With no refill, with one, and outside a run. -/
theorem witness_StopEndsPlaybackAtOnce : ((playing 3).sst = .run ∧ (playing 3).fillBusy = false) ∧
    ((filling 0).sst = .run ∧ (filling 0).fillBusy = true) ∧ base.sst ≠ .run ∧ stopping.sst ≠ .run := by decide

theorem witness_PollIsRememberedForAWaitingRequest : (started.sst = .run ∧ started.rq ≠ []) ∧
    (lastTick.sst = .run ∧ lastTick.rq = []) ∧ base.sst ≠ .run := by decide

theorem witness_ModeOnlyWhileIdle : base.sst = .idle ∧ started.sst ≠ .idle ∧ stopping.sst ≠ .idle := by decide

/-- The largest counts the layout has room for. -/
theorem witness_StatusWordLayout :
    ({ started with silCnt := 15, rq := [.b0, .b1, .b0], pq := [.b1, .b0, .b1] } : State).silCnt < 16 ∧
    ({ started with silCnt := 15, rq := [.b0, .b1, .b0], pq := [.b1, .b0, .b1] } : State).rq.length < 4 ∧
    ({ started with silCnt := 15, rq := [.b0, .b1, .b0], pq := [.b1, .b0, .b1] } : State).pq.length < 4 := by
  decide

theorem witness_ReservedOpcodesOnlyRaiseCmderr :
    9 ≤ (opField 0x9ABCDEF0#32).toNat ∧ 9 ≤ (opField 0xF1234567#32).toNat := by decide

theorem witness_CommandsNeverTouchARefill : (filling 3).fillBusy = true := by decide

/-- No flag yet, each of the four causes, and each command the rule calls no error. -/
theorem witness_CmderrHasFourCauses : base.cmdErr = false ∧ 9 ≤ Instr.reserved9.opcode.toNat ∧
    base.cfg.nch ≤ (2 : BitVec 4).toNat ∧ (started.cmdErr = false ∧ started.sst ≠ .idle) ∧
    (State.resetOf { Config.tiny with refillTicksMax := 5 }).cfg.cfgErr = true ∧
    started.cfg.cfgErr = false ∧ base.sst = .idle ∧ base.rq = [] := by decide

theorem witness_OnlyRdstatResponds : started.out.rsp = none := by decide

/-- The largest word below the sample rate, and the sample rate. -/
theorem witness_StepSaturatesAtTheSampleRate : Config.tiny.instanceOk = true ∧
    255 < Config.tiny.fs * 2 ^ Config.tiny.fq ∧ Config.tiny.fs * 2 ^ Config.tiny.fq ≤ 256 := by decide

theorem witness_PhaseAdvanceIsTheModuloLaw : 127 < Config.tiny.phmod ∧ 0 < Config.tiny.phmod := by decide

theorem witness_NormalisationRoundsToNearest : 0 < 4 ∧ 4000 ≤ 4 * 1000 ∧ normalise 4000 4 = 1000 := by decide

theorem witness_IdenticalVoicesMixToOne :
    (∀ v ∈ [Voice.mk 32 16 true 16, Voice.mk 32 16 true 16, Voice.mk 0 0 false 5], v.vact = true → v.phase = 16) ∧
    lookup Config.tiny 16 = some 13 ∧
    0 < [Voice.mk 32 16 true 16, Voice.mk 32 16 true 16, Voice.mk 0 0 false 5].countP Voice.vact := by decide

theorem witness_SilentSampleIsTheIdleValue : base.nact = 0 := by decide

theorem witness_EffectsComposeReshapeThenTremolo : (filling 3).nact ≠ 0 ∧
    mixSum (filling 3).cfg (filling 3).voices = some 13 ∧ (filling 3).mixSample = .ok 13 := by
  refine ⟨by decide, by decide, rfl⟩

theorem witness_MixStagesStayInRange : Inv (filling 3) ∧ (filling 3).nact ≠ 0 := ⟨inv_filling_last, by decide⟩

theorem witness_AtMostOneRefillStepIsEnabled : started.refillStartEnabled = true ∧
    (filling 3).refillSampleEnabled = true ∧ (filling 4).refillDoneEnabled = true ∧
    (base.refillStartEnabled = false ∧ base.refillSampleEnabled = false ∧ base.refillDoneEnabled = false) := by decide

/-- A fill with a sounding voice, a silent window, and the cut-off, in both models. -/
theorem witness_RefillStartLatchesAndFillsOrCutsOff :
    (started.sst = .run ∧ started.fillBusy = false ∧ started.rq = .b0 :: [.b1] ∧ started.lastw = false ∧
      started.auto = true ∧ started.voices.countP (fun v => v.vfreq != 0) = 1) ∧
    (({ started with voices := voicesAt 0 |>.map fun v => { v with vfreq := 0 } } : State).voices.countP
      (fun v => v.vfreq != 0) = 0 ∧ started.silCnt + 1 < started.cfg.silenceLimit) ∧
    (({ started with auto := false, silCnt := 1 } : State).pollPend = true ∧
      min (({ started with auto := false, silCnt := 1 } : State).silCnt + 1) started.cfg.silenceLimit =
        started.cfg.silenceLimit) := by decide

theorem witness_RefillSampleWritesOneWordAndAdvances :
    (Inv (filling 0) ∧ (filling 0).fillBusy = true ∧ (filling 0).wrIdx < (filling 0).cfg.b) ∧
    (Inv (filling 3) ∧ (filling 3).fillBusy = true ∧ (filling 3).wrIdx < (filling 3).cfg.b) :=
  ⟨⟨inv_filling_first, by decide⟩, inv_filling_last, by decide⟩

theorem witness_RefillDoneHandsOverOrDiscards :
    ((filling 4).fillBusy = true ∧ (filling 4).wrIdx = (filling 4).cfg.b ∧ (filling 4).sst = .run) ∧
    (stopping.fillBusy = true ∧ stopping.wrIdx = stopping.cfg.b ∧ stopping.sst ≠ .run) := by decide

theorem witness_OneVoiceRefillReadsTheTable : Inv started ∧ started.rst = false ∧
    started.refillStartEnabled = true ∧ started.rq = .b0 :: [.b1] ∧ started.fx = 0 ∧
    started.voices[0]? = some (Voice.mk 32 0 false 0) ∧ (Voice.mk 32 0 false 0).vfreq ≠ 0 ∧
    (∀ j u, j ≠ 0 → started.voices[j]? = some u → u.vfreq = 0) := by
  refine ⟨inv_started, by decide, by decide, by decide, by decide, by decide, by decide, ?_⟩
  intro j u hj hu
  match j with
  | 0 => exact absurd rfl hj
  | 1 =>
    simp only [started, List.getElem?_cons_succ, List.getElem?_cons_zero, Option.some.injEq] at hu
    rw [← hu]
  | n + 2 => simp [started] at hu

/-- A word in the middle, and the last word. -/
theorem witness_PlayingTickEmitsAndDrains :
    ((playing 0).pst = .play ∧ (playing 0).cfg.hasBuf (playing 0).playBuf = true ∧
      (playing 0).rdIdx + 1 < (playing 0).cfg.b) ∧
    ((playing 3).pst = .play ∧ (playing 3).cfg.hasBuf (playing 3).playBuf = true ∧
      (playing 3).rdIdx + 1 = (playing 3).cfg.b) := by decide

/-- After the start-up, between two windows, and with windows of one sample. -/
theorem witness_HandOffLosesNoTick :
    ((ready .prime).pst = .prime ∧ (ready .prime).pq = .b0 :: [] ∧ (ready .prime).cfg.hasBuf .b0 = true ∧
      1 < (ready .prime).cfg.b) ∧
    ((ready .wait).pst = .wait ∧ (ready .wait).pq = .b0 :: []) ∧
    (({ ready .wait with cfg := { Config.tiny with b := 1 } } : State).cfg.hasBuf .b0 = true ∧
      ({ ready .wait with cfg := { Config.tiny with b := 1 } } : State).cfg.b = 1) := by decide

theorem witness_NotPlayingEmitsTheIdleValue : base.pst = .off ∧
    (started.pst = .prime ∧ started.pq = [] ∧ started.lastw = false) := by decide

theorem witness_EndOfLastWindowReturnsToIdle : (lastTick.pst = .wait ∧ lastTick.pq = [] ∧ lastTick.lastw = true) ∧
    ({ lastTick with pst := .prime } : State).pst = .prime := by decide

theorem witness_UnderrunTickHoldsTheDuty : starved.pst = .wait ∧ starved.pq = [] ∧ starved.lastw = false ∧
    starved.cfg.nbuf = 2 := by decide

theorem witness_SingleBufferPauseIsNoError :
    ({ starved with cfg := { Config.tiny with nbuf := 1 }, rq := [.b0] } : State).pst = .wait ∧
    ({ starved with cfg := { Config.tiny with nbuf := 1 }, rq := [.b0] } : State).pq = [] ∧
    ({ starved with cfg := { Config.tiny with nbuf := 1 }, rq := [.b0] } : State).lastw = false ∧
    ({ starved with cfg := { Config.tiny with nbuf := 1 }, rq := [.b0] } : State).cfg.nbuf = 1 := by decide

/-- A tick that plays a word, one that emits the idle value, one that holds, and a reset edge. -/
theorem witness_DutyChangesOnlyAtATick :
    step (present .sampleTick (playing 0)) = .next (after .sampleTick (playing 0)) ∧
    (after .sampleTick (playing 0)).dutyStrobe = true ∧
    (after .sampleTick (playing 0)).duty ≠ (playing 0).duty ∧
    step (present (.rstEdge true) starved) = .next (after (.rstEdge true) starved) ∧
    (after (.rstEdge true) starved).duty ≠ starved.duty :=
  ⟨step_after (by decide), by decide, by decide, step_after (by decide), by decide⟩

/-- A step that writes a word, a tick that reads one, and a refill while a buffer is played. -/
theorem witness_NoTornBuffer :
    (Inv (filling 3) ∧ step (present .refill (filling 3)) =
        .next (after .refill (filling 3)) ∧
      Turn.refill ≠ .rstEdge true ∧
      memGet (after .refill (filling 3)).obuf.b0 3 ≠ memGet (filling 3).obuf.b0 3) ∧
    (Inv (ready .wait) ∧ step (present .sampleTick (ready .wait)) =
        .next (after .sampleTick (ready .wait)) ∧
      (after .sampleTick (ready .wait)).dutyStrobe = true ∧
      (ready .wait).acquire.pst = .play) ∧
    (Inv { playing 1 with rq := [], fillBusy := true, fillBuf := .b1, wrIdx := 0, bst := ⟨.playing, .filling⟩ } ∧
      (playing 1).pst = .play) :=
  ⟨⟨inv_filling_last, step_after (by decide), by decide⟩, ⟨inv_ready, step_after (by decide), by decide⟩,
    inv_of_check (by decide), by decide⟩

/-- A step that adds a sample, a tick that takes one in play and one at a hand-off, and a tick that takes none. -/
theorem witness_UnheardSamplesAreAQueue :
    (Inv (filling 3) ∧ (filling 3).rst = false ∧
      step (present .refill (filling 3)) = .next (after .refill (filling 3)) ∧
      Turn.refill ≠ .rstEdge true ∧ isCommand .stop .refill = false ∧
      (filling 3).refillSampleEnabled = true ∧ (filling 3).sst = .run) ∧
    (Inv (playing 3) ∧
      step (present .sampleTick (playing 3)) = .next (after .sampleTick (playing 3)) ∧
      (after .sampleTick (playing 3)).dutyStrobe = true ∧ (playing 3).pst = .play) ∧
    (Inv (ready .wait) ∧ (ready .wait).pst ≠ .off ∧ (ready .wait).pq ≠ []) ∧
    (Inv starved ∧ unheard starved = []) :=
  ⟨⟨inv_filling_last, by decide, step_after (by decide), by decide⟩,
    ⟨inv_playing_last, step_after (by decide), by decide⟩, ⟨inv_ready, by decide⟩, inv_starved, by decide⟩

theorem witness_StopSilencesWithinOneTick : (playing 3).sst = .run ∧
    (Inv base ∧ base.pst = .off ∧ base.duty = base.cfg.idleDuty ∧
      step (present .sampleTick base) = .next (after .sampleTick base)) ∧
    (Inv started ∧ started.pst = .prime ∧ started.pq = [] ∧
      step (present .sampleTick started) = .next (after .sampleTick started)) :=
  ⟨by decide, ⟨inv_base, by decide, by decide, step_after (by decide)⟩, inv_started, by decide, by decide,
    step_after (by decide)⟩

/-- Windows of one sample, the shortest there are, and refills that take the one tick they may. -/
def shortest : State := State.resetOf { Config.tiny with b := 1, refillTicksMax := 1 }

/-- One hand-off with the refill as late as the condition of rule R283 admits. -/
def latestRefill : List Turn :=
  [.command 0x10000020, .command 0x30000000, .refill, .refill, .refill, .sampleTick, .refill, .refill, .refill,
    .sampleTick]

theorem witness_NoUnderrunUnderTheDeadline : Inv shortest ∧ shortest.sst = .idle ∧ shortest.auto = true ∧
    shortest.rst = false ∧ shortest.cfg.nbuf = 2 ∧ shortest.cfg.refillTicksMax ≤ shortest.cfg.b ∧
    (∀ u ∈ latestRefill, keepsPlaying u = true) ∧ timely shortest.cfg.refillTicksMax 0 latestRefill shortest :=
  ⟨inv_of_check (by decide), by decide, by decide, by decide, by decide, by decide, by decide,
    timely_of_check _ _ _ _ (by decide)⟩

theorem witness_PwmPeriodIsHighForCmpCycles : Inv (playing 1) ∧ (playing 1).rst = false ∧ (playing 1).cnt = 0 ∧
    0 < (playing 1).cfg.dutyMax ∧ 14 < (playing 1).cfg.dutyMax := ⟨inv_of_check (by decide), by decide⟩

theorem witness_SampleTickTurnIsTheRestOfThePeriod : Inv (playing 3) ∧ (playing 3).rst = false :=
  ⟨inv_playing_last, by decide⟩

theorem witness_InvariantsHoldAfterReset : Config.tiny.instanceOk = true := by decide

theorem witness_EveryStepKeepsTheInvariants : Inv (present .refill (filling 3)) ∧
    step (present .refill (filling 3)) = .next (after .refill (filling 3)) :=
  ⟨inv_of_check (by decide), step_after (by decide)⟩

theorem witness_NoStepFaults : Inv (playing 3) := inv_playing_last

/-- A refill step that moves a phase and the tremolo phase. -/
theorem witness_OnlyARefillMovesThePhases : Inv (filling 3) ∧
    step (present .refill (filling 3)) = .next (after .refill (filling 3)) ∧
    Turn.refill ≠ .rstEdge true ∧ (filling 3).voices[0]? = some (Voice.mk 32 16 true 48) ∧
    (after .refill (filling 3)).voices[0]? = some (Voice.mk 32 16 true 64) ∧
    (after .refill (filling 3)).tph ≠ (filling 3).tph := ⟨inv_filling_last, step_after (by decide), by decide⟩

theorem witness_ModesFollowTheTransitionTable : Inv lastTick ∧
    step (present .sampleTick lastTick) = .next (after .sampleTick lastTick) ∧
    nextModes .sampleTick lastTick = (.idle, .off) := ⟨inv_lastTick, step_after (by decide), by decide⟩

/-- A state with other pending words, for a RefillSample, a VFREQ and a RDSTAT. -/
def otherPending : State := { filling 3 with voices := [⟨5, 16, true, 48⟩, ⟨9, 0, false, 0⟩], fx := 3 }

theorem witness_PendingWritesWaitForARefillStart : samePending (filling 3) otherPending ∧
    (isCommand .rdstat .refill = false ∧ (filling 3).refillStartEnabled = false ∧
      step (present .refill (filling 3)) = .next (after .refill (filling 3))) ∧
    (isCommand .rdstat (.command 0x10000018) = false ∧
      step (present (.command 0x10000018) (filling 3)) = .next (after (.command 0x10000018) (filling 3))) ∧
    isCommand .rdstat (.command 0x70000000) = true ∧
    (after (.command 0x70000000) (filling 3)).out ≠ (after (.command 0x70000000) otherPending).out :=
  ⟨by unfold samePending; decide, ⟨by decide, by decide, step_after (by decide)⟩,
    ⟨by decide, step_after (by decide)⟩, by decide, by decide⟩

theorem witness_RaisedSineTablesPassTheChecks : 2 ≤ Config.tiny.l := by decide

theorem witness_SameCycleOrderExamples :
    (({ playing 3 with rq := [] } : State).rst = false ∧ ({ playing 3 with rq := [] } : State).sst = .run ∧
      ({ playing 3 with rq := [] } : State).pst = .play ∧
      ({ playing 3 with rq := [] } : State).cfg.hasBuf ({ playing 3 with rq := [] } : State).playBuf = true ∧
      ({ playing 3 with rq := [] } : State).rdIdx + 1 = ({ playing 3 with rq := [] } : State).cfg.b ∧
      ({ playing 3 with rq := [] } : State).rq = [] ∧ ({ playing 3 with rq := [] } : State).fillBusy = false ∧
      ({ playing 3 with rq := [] } : State).lastw = false ∧ ({ playing 3 with rq := [] } : State).auto = true ∧
      (∃ v ∈ ({ playing 3 with rq := [] } : State).voices, v.vfreq ≠ 0)) ∧
    ((filling 4).rst = false ∧ (filling 4).sst = .run ∧ (filling 4).refillDoneEnabled = true ∧
      decode 0x40000000#32 = .stop) := by decide

end Sys2Proof.Tests
end

/-! PROOF. The statements about turns, the integer square root and the spec's two configurations. -/

namespace Sys2Proof.Machine

open Sys2Proof

/-! ## Turns and their agents (rules R12, R83, R270) -/

/-- Out of reset a refill turn is the refill engine's (rule R169). -/
theorem takeTurn_refill {s : State} (h : s.rst = false) : takeTurn .refill s = refillTurn s := by
  simp [takeTurn, h]

/-- Out of reset a sample-tick turn is the rest of the sample period (log 12). -/
theorem takeTurn_sampleTick {s : State} (h : s.rst = false) : takeTurn .sampleTick s = periodBoundary s := by
  simp [takeTurn, h]

/-- Out of reset a pulse-width turn is one cycle of that stage (rule R214). -/
theorem takeTurn_pwmCycle {s : State} (h : s.rst = false) : takeTurn .pwmCycle s = pwmCycle s := by
  simp [takeTurn, h]

/-! ## No agent reads or writes the turns to come

Every operation commutes with replacing the list of turns. That a turn leaves the list as it was follows, because
replacing the list by itself changes nothing. -/

/-- The state with another list of turns to come. -/
def State.withTurns (s : State) (ts : List Turn) : State := { s with turns := ts }

/-- The outcome with another list of turns in its next state. -/
def replaceTurns (ts : List Turn) : Host.Outcome State Fault Refusal → Host.Outcome State Fault Refusal
  | .next t => .next (t.withTurns ts)
  | .fault r => .fault r
  | .refused r => .refused r

@[simp] theorem replaceTurns_next (ts : List Turn) (t : State) :
    replaceTurns ts (.next t) = .next (t.withTurns ts) := rfl

theorem replaceTurns_ite (ts : List Turn) (p : Prop) [Decidable p] (x y : Host.Outcome State Fault Refusal) :
    replaceTurns ts (if p then x else y) = if p then replaceTurns ts x else replaceTurns ts y :=
  apply_ite _ _ _ _

section Commute

variable (s : State) (ts : List Turn)

@[simp] theorem withTurns_turns : (s.withTurns ts).turns = ts := rfl

theorem withTurns_ite (p : Prop) [Decidable p] (x y : State) :
    (if p then x else y).withTurns ts = if p then x.withTurns ts else y.withTurns ts :=
  apply_ite (State.withTurns · ts) _ _ _

/-- Commands come through the decoder and the port; none looks at the turns to come (rule R83). -/
theorem exec_withTurns (i : Instr) : exec i (s.withTurns ts) = replaceTurns ts (exec i s) := by
  cases i with
  | vfreq | start | stop | poll | mode =>
    simp only [exec, execVfreq, execStart, execStop, execPoll, execMode, replaceTurns_ite]
    rfl
  | nop | fxset | rdstat | clrerr | reserved9 | reservedA | reservedB | reservedC | reservedD | reservedE
  | reservedF => rfl

theorem refillDone_withTurns : (s.withTurns ts).refillDone = s.refillDone.withTurns ts := by
  simp only [State.refillDone, withTurns_ite]
  rfl

theorem cutOffOrFill_withTurns (k : BufId) :
    (s.withTurns ts).cutOffOrFill k = (s.cutOffOrFill k).withTurns ts := by
  simp only [State.cutOffOrFill, withTurns_ite]
  rfl

theorem refillStart_withTurns (k : BufId) (rest : List BufId) :
    (s.withTurns ts).refillStart k rest = (s.refillStart k rest).withTurns ts := by
  rw [State.refillStart, State.refillStart, ← cutOffOrFill_withTurns]
  rfl

theorem refillSample_withTurns : (s.withTurns ts).refillSample = replaceTurns ts s.refillSample := by
  have hmix : (s.withTurns ts).mixSample = s.mixSample := rfl
  unfold State.refillSample
  rw [hmix]
  cases s.mixSample with
  | error r => rfl
  | ok d => simp only [replaceTurns_ite]; rfl

theorem refillTurn_withTurns : refillTurn (s.withTurns ts) = replaceTurns ts (refillTurn s) := by
  have hrq : (s.withTurns ts).rq = s.rq := rfl
  simp only [refillTurn, replaceTurns_ite, refillSample_withTurns, refillDone_withTurns, hrq]
  cases s.rq with
  | nil => rfl
  | cons k rest => simp only [refillStart_withTurns]; rfl

theorem acquire_withTurns : (s.withTurns ts).acquire = s.acquire.withTurns ts := by
  have hpq : (s.withTurns ts).pq = s.pq := rfl
  simp only [State.acquire, withTurns_ite, hpq]
  cases s.pq <;> rfl

theorem emit_withTurns (v : Nat) : (s.withTurns ts).emit v = (s.emit v).withTurns ts := by
  simp only [State.emit, withTurns_ite]
  rfl

theorem tickCase_withTurns : (s.withTurns ts).tickCase = replaceTurns ts s.tickCase := by
  have hpst : (s.withTurns ts).pst = s.pst := rfl
  have hread : (s.withTurns ts).obufRead (s.withTurns ts).playBuf (s.withTurns ts).rdIdx =
    s.obufRead s.playBuf s.rdIdx := rfl
  unfold State.tickCase
  rw [hpst, hread]
  cases s.pst with
  | off => rfl
  | prime => simp only [replaceTurns_ite]; rfl
  | wait => simp only [replaceTurns_ite]; rfl
  | play =>
    cases s.obufRead s.playBuf s.rdIdx with
    | none => rfl
    | some v => simp only [emit_withTurns, replaceTurns_next]

theorem sampleTick_withTurns : sampleTick (s.withTurns ts) = replaceTurns ts (sampleTick s) := by
  unfold sampleTick
  rw [acquire_withTurns, tickCase_withTurns]
  cases s.acquire.tickCase <;> rfl

theorem periodBoundary_withTurns : periodBoundary (s.withTurns ts) = replaceTurns ts (periodBoundary s) := by
  unfold periodBoundary
  rw [sampleTick_withTurns]
  cases sampleTick s <;> rfl

theorem pwmCycle_withTurns : pwmCycle (s.withTurns ts) = replaceTurns ts (pwmCycle s) := by
  simp only [pwmCycle, replaceTurns_ite, periodBoundary_withTurns]
  rfl

/-- One agent's turn, from what its engine does. -/
theorem takeTurn_withTurns (u : Turn) : takeTurn u (s.withTurns ts) = replaceTurns ts (takeTurn u s) := by
  cases u with
  | command w => simp only [takeTurn, commandTurn, exec_withTurns, replaceTurns_ite]; rfl
  | refill => simp only [takeTurn, refillTurn_withTurns, replaceTurns_ite]; rfl
  | sampleTick => simp only [takeTurn, periodBoundary_withTurns, replaceTurns_ite]; rfl
  | pwmCycle => simp only [takeTurn, pwmCycle_withTurns, replaceTurns_ite]; rfl
  | rstEdge level => cases level <;> rfl

/-- A turn taken from a longer list does what it does when presented alone. -/
theorem step_withTurns_cons (u : Turn) :
    step (s.withTurns (u :: ts)) = replaceTurns ts (step (Safety.present u s)) :=
  takeTurn_withTurns { s with freeCtr := s.freeCtr + 1, out := Pulses.none } ts u

end Commute

/-- A presented turn is used up and leaves the turns to come. -/
theorem step_present_turns {s t : State} {u : Turn} (h : step (Safety.present u s) = .next t) :
    t.turns = s.turns := by
  have hself : step (Safety.present u s) = replaceTurns s.turns (step (Safety.present u s)) :=
    step_withTurns_cons s s.turns u
  rw [h, replaceTurns_next, Host.Outcome.next.injEq] at hself
  rw [hself, withTurns_turns]

/-- The host's run over listed turns, one turn at a time (log 2). -/
theorem run_withTurns (ts : List Turn) (s : State) :
    Host.Core.run Sys2Proof.core ts.length (s.withTurns (ts ++ s.turns)) = Safety.runTurns ts s := by
  induction ts generalizing s with
  | nil => rfl
  | cons u ts ih =>
    have hstep : Sys2Proof.core.step (s.withTurns (u :: (ts ++ s.turns))) =
        replaceTurns (ts ++ s.turns) (step (Safety.present u s)) := step_withTurns_cons s _ u
    simp only [List.length_cons, List.cons_append, Host.Core.run, Safety.runTurns, hstep]
    cases h : step (Safety.present u s) with
    | next t =>
      simp only [replaceTurns_next]
      rw [← step_present_turns h]
      exact ih t
    | fault r => rfl
    | refused r => rfl

/-! ## The integer square root (rule R9) -/

/-- The invariant of the digit search: with the root in `r .. r + 2^k - 1`, `k` more digits find it. -/
theorem isqrtDigits_bounds {n k r : Nat} (hlo : r * r ≤ n) (hhi : n < (r + 2 ^ k) * (r + 2 ^ k)) :
    isqrtDigits n k r * isqrtDigits n k r ≤ n ∧ n < (isqrtDigits n k r + 1) * (isqrtDigits n k r + 1) := by
  induction k generalizing r with
  | zero => exact ⟨hlo, hhi⟩
  | succ k ih =>
    have htwice : r + 2 ^ (k + 1) = r + 2 ^ k + 2 ^ k := by rw [pow_succ]; omega
    rw [isqrtDigits]
    split
    · next htake => exact ih htake (htwice ▸ hhi)
    · next hskip => exact ih hlo (Nat.lt_of_not_le hskip)

/-- `log2 n / 2 + 1` binary digits are enough for the root of `n`. -/
theorem lt_sq_two_pow_half_log2 (n : Nat) : n < 2 ^ (n.log2 / 2 + 1) * 2 ^ (n.log2 / 2 + 1) := by
  rw [← pow_add]
  calc n < 2 ^ (n.log2 + 1) := Nat.lt_log2_self
    _ ≤ 2 ^ (n.log2 / 2 + 1 + (n.log2 / 2 + 1)) := Nat.pow_le_pow_right (by decide) (by omega)

/-! ## The spec's two configurations (rules R6, R7, R8) -/

/-- `clog2` is the number of bits that just holds `n` values. -/
theorem clog2_eq {n k : Nat} (hlo : 2 ^ k < n) (hhi : n ≤ 2 ^ (k + 1)) : clog2 n = k + 1 := by
  have hpos : 0 < 2 ^ k := Nat.two_pow_pos k
  have hlog : (n - 1).log2 = k := (Nat.log2_eq_iff (by omega)).mpr ⟨by omega, by omega⟩
  rw [clog2, if_neg (by omega), hlog]

/-- The default table keeps the range of rule R102. -/
theorem romDefault_le_peak : ∀ v ∈ romDefault, v ≤ 1000 := by
  simp only [romDefault, List.mem_append, or_imp, forall_and]
  exact ⟨⟨⟨⟨by decide, by decide⟩, by decide⟩, by decide⟩, by decide⟩

/-- The facts rule R105 asks of the default table: its length, its range and the fixed points of rule R103. -/
theorem standard_romOk : Config.standard.romOk = true := by
  have hlen : Config.standard.rom.length = Config.standard.l := by
    change romDefault.length = 500
    simp only [romDefault, List.length_append]
    rfl
  have hrange : Config.standard.rom.all (fun v => decide (v ≤ Config.standard.peak)) = true := by
    simp only [List.all_eq_true, decide_eq_true_eq]
    exact romDefault_le_peak
  simp only [Config.romOk, hlen, hrange]
  decide

/-- The default gain reaches only words of the table, which are at most `PEAK = GDEN` (rule R145). -/
theorem standard_effectsOk : Config.standard.effectsOk = true := by
  have hgain : Config.standard.gainWords.all (fun g => decide (g ≤ Config.standard.gden)) = true := by
    simp only [List.all_eq_true, decide_eq_true_eq]
    exact fun g hg => romDefault_le_peak g (List.mem_of_mem_take hg)
  have htrem : Config.standard.tremGain = .romAtPhase := rfl
  simp only [Config.effectsOk, htrem, hgain]
  decide

/-- The default configuration is well formed (rules R6, R8; log 6). -/
theorem standard_ok : Config.standard.ok = true := by
  have hcounts : Config.standard.countsOk = true := by decide
  have hamplitudes : Config.standard.amplitudesOk = true := by decide
  have hrates : Config.standard.ratesOk = true := by decide
  have htiming : Config.standard.timingOk = true := by decide
  simp only [Config.ok, Config.instanceOk, hcounts, hamplitudes, hrates, standard_effectsOk, standard_romOk, htiming,
    Bool.and_self]

/-- The widths of rule R7 that the default configuration has. -/
theorem standard_widths : Config.standard.iw = 9 ∧ Config.standard.accw = 12 :=
  ⟨clog2_eq (k := 8) (by decide) (by decide), clog2_eq (k := 11) (by decide) (by decide)⟩

/-- The widths of rule R7 that the TINY configuration has. -/
theorem tiny_widths : Config.tiny.iw = 3 ∧ Config.tiny.accw = 5 :=
  ⟨clog2_eq (k := 2) (by decide) (by decide), clog2_eq (k := 4) (by decide) (by decide)⟩

/-! ## The statements -/

/-- Settles O7, by induction on the listed turns: no agent reads or writes the turns to come. -/
theorem listedTurnsRunInOrder : Obligations.ListedTurnsRunInOrder := by
  unfold Obligations.ListedTurnsRunInOrder
  exact run_withTurns

/-- Settles O31, by the invariant of the digit search from no digit found. -/
theorem isqrtIsTheLargestRoot : Obligations.IsqrtIsTheLargestRoot := by
  unfold Obligations.IsqrtIsTheLargestRoot
  intro n
  have hhi : n < (0 + 2 ^ (n.log2 / 2 + 1)) * (0 + 2 ^ (n.log2 / 2 + 1)) := by
    simpa only [Nat.zero_add] using lt_sq_two_pow_half_log2 n
  exact isqrtDigits_bounds (Nat.zero_le n) hhi

/-- Settles O6, by what each engine's turn is out of reset. -/
theorem turnsRunTheirAgents : Obligations.TurnsRunTheirAgents := by
  unfold Obligations.TurnsRunTheirAgents
  rintro s u hrst rfl
  simp only [step_present]
  exact ⟨takeTurn_refill hrst, takeTurn_sampleTick hrst, takeTurn_pwmCycle hrst⟩

/-- Settles O33, from the parts of `cfg_ok` and the widths. -/
theorem specConfigurationsAreWellFormed : Obligations.SpecConfigurationsAreWellFormed := by
  unfold Obligations.SpecConfigurationsAreWellFormed
  obtain ⟨hiw, haccw⟩ := standard_widths
  obtain ⟨htinyIw, htinyAccw⟩ := tiny_widths
  have hpw : Config.standard.pw = 25 := by rw [Config.pw, hiw]; rfl
  have htinyPw : Config.tiny.pw = 7 := by rw [Config.pw, htinyIw]; rfl
  exact ⟨standard_ok, hiw, hpw, by decide, haccw, by decide, htinyIw, htinyPw, by decide, htinyAccw⟩

end Sys2Proof.Machine

/-! PROOF. The statements about the state as a whole: the status word, reset, the invariants of rule R46 and what the
pending registers and the phases depend on. -/

namespace Sys2Proof.Machine

open Sys2Proof Sys2Proof.Safety

/-! ## The status word (rule R45) -/

/-- Two fields side by side, as numbers. -/
theorem toNat_append_eq_add {m n : Nat} (x : BitVec m) (y : BitVec n) :
    (x ++ y).toNat = x.toNat * 2 ^ n + y.toNat := by
  rw [BitVec.toNat_append, ← Nat.shiftLeft_add_eq_or_of_lt y.isLt, Nat.shiftLeft_eq]

/-- The two effect flags as a number. -/
theorem toNat_flags (fl : BitVec 2) : fl.toNat = (fl.getLsbD 0).toNat + 2 * (fl.getLsbD 1).toNat := by
  revert fl
  decide

theorem BufId_toNat_bit (b : BufId) : (BufId.bit b).toNat = b.idx := by
  cases b <;> rfl

theorem statusLow_toNat (s : State) : s.statusLow.toNat =
    s.underrun.toNat + 2 * s.freqSat.toNat + 4 * s.cmdErr.toNat + 8 * s.cfg.cfgErr.toNat + 16 * s.sst.code.toNat +
      64 * s.pst.code.toNat := by
  simp only [State.statusLow, toNat_append_eq_add, BitVec.toNat_ofBool]
  omega

theorem statusMid_toNat (s : State) : s.statusMid.toNat =
    s.playBuf.idx + 2 * s.fillBusy.toNat + 4 * s.fillBuf.idx + 8 * s.lastw.toNat + 16 * (s.fx.getLsbD 0).toNat +
      32 * (s.fx.getLsbD 1).toNat + 64 * s.auto.toNat + 128 * s.pollPend.toNat := by
  simp only [State.statusMid, toNat_append_eq_add, BitVec.toNat_ofBool, BufId_toNat_bit, toNat_flags s.fx]
  omega

/-- A count that fits its field is not truncated (log 23). -/
theorem statusHigh_toNat {s : State} (hsil : s.silCnt < 16) (hrq : s.rq.length < 4) (hpq : s.pq.length < 4) :
    s.statusHigh.toNat = s.rq.length + 4 * s.pq.length + 16 * s.silCnt := by
  simp only [State.statusHigh, toNat_append_eq_add, BitVec.toNat_ofNat]
  omega

/-- The status word as the sum of its fields, the two modes by their codes. -/
theorem status_toNat {s : State} (hsil : s.silCnt < 16) (hrq : s.rq.length < 4) (hpq : s.pq.length < 4) :
    s.status.toNat =
      s.underrun.toNat + 2 * s.freqSat.toNat + 4 * s.cmdErr.toNat + 8 * s.cfg.cfgErr.toNat +
      16 * s.sst.code.toNat + 64 * s.pst.code.toNat +
      256 * s.playBuf.idx + 512 * s.fillBusy.toNat + 1024 * s.fillBuf.idx + 2048 * s.lastw.toNat +
      4096 * (s.fx.getLsbD 0).toNat + 8192 * (s.fx.getLsbD 1).toNat + 16384 * s.auto.toNat +
      32768 * s.pollPend.toNat + 65536 * s.rq.length + 262144 * s.pq.length + 1048576 * s.silCnt := by
  have htop : (0 : BitVec 8).toNat = 0 := rfl
  simp only [State.status, toNat_append_eq_add, statusLow_toNat, statusMid_toNat, statusHigh_toNat hsil hrq hpq,
    htop]
  omega

/-- Settles O17, byte by byte; the codes of the two modes are those of rules R33 and R34. -/
theorem statusWordLayout : Obligations.StatusWordLayout := by
  unfold Obligations.StatusWordLayout
  intro s hsil hrq hpq
  rw [status_toNat hsil hrq hpq]
  cases s.sst <;> cases s.pst <;> rfl

/-- Settles O58: both edges compute. -/
theorem resetEdgeGivesTheResetValues : Obligations.ResetEdgeGivesTheResetValues := by
  unfold Obligations.ResetEdgeGivesTheResetValues
  intro s
  have hbst : ∀ b, (present (.rstEdge true) s).beginStep.resetEdge.bst.get b = .empty := by
    intro b
    cases b <;> rfl
  exact ⟨_, _, rfl, rfl, rfl, rfl, rfl, rfl, rfl, rfl, rfl, rfl, rfl, hbst, rfl, rfl, rfl, rfl, rfl, rfl, rfl, rfl, rfl,
    rfl, rfl, rfl, rfl, rfl, rfl, rfl, rfl, rfl, rfl, rfl⟩

end Sys2Proof.Machine

namespace Sys2Proof.Safety

open Sys2Proof Sys2Proof.Machine

/-! ## The invariants right after reset (rules R46, R48) -/

/-- The legal ranges of rule R6 that the invariants rest on. -/
theorem ranges_of_instanceOk {c : Config} (h : c.instanceOk = true) :
    0 < c.b ∧ (c.nbuf = 1 ∨ c.nbuf = 2) ∧ 0 < c.dutyMax ∧ c.idleDuty ≤ c.dutyMax ∧ 0 < c.tmod ∧ 0 < c.phmod := by
  simp only [Config.instanceOk, Bool.and_eq_true] at h
  obtain ⟨⟨⟨⟨hcounts, hamplitudes⟩, -⟩, heffects⟩, -⟩ := h
  simp only [Config.countsOk, Bool.and_eq_true, Bool.or_eq_true, decide_eq_true_eq] at hcounts
  simp only [Config.amplitudesOk, Bool.and_eq_true, decide_eq_true_eq] at hamplitudes
  simp only [Config.effectsOk, Bool.and_eq_true, decide_eq_true_eq] at heffects
  obtain ⟨⟨⟨⟨⟨-, hl⟩, hb⟩, hnbuf⟩, -⟩, -⟩ := hcounts
  obtain ⟨⟨⟨-, hmax⟩, -⟩, hidle⟩ := hamplitudes
  obtain ⟨⟨⟨⟨htmod, -⟩, -⟩, -⟩, -⟩ := heffects
  exact ⟨hb, hnbuf, by omega, hidle, htmod, Nat.mul_pos (by omega) (Nat.two_pow_pos _)⟩

/-- With every buffer empty and nothing listed, the reset state keeps the invariants. -/
theorem inv_resetOf {c : Config} (hc : c.instanceOk = true) : Inv (State.resetOf c) := by
  obtain ⟨hb, -, hmax, hidle, htmod, hphmod⟩ := ranges_of_instanceOk hc
  have hplaces : ∀ b, places (State.resetOf c) b = 0 := fun b => rfl
  have hbst : ∀ b, (State.resetOf c).bst.get b = .empty := by
    intro b
    cases b <;> rfl
  exact
    { isInstance := hc
      voiceCount := List.length_replicate
      activeCount := by simp [State.resetOf, List.countP_replicate]
      placedOnce := fun b => by simp [hplaces]
      bstIsPlace := fun b => hbst b
      voiceRange := fun v hv => by
        obtain rfl := List.eq_of_mem_replicate hv
        exact ⟨hphmod, hphmod⟩
      tphRange := htmod
      wrRange := Nat.zero_le _
      rdRange := hb
      silRange := Nat.zero_le _
      dutyRange := hidle
      idleIsQuiet := fun _ => ⟨rfl, rfl, rfl, rfl, rfl, rfl, rfl, rfl⟩
      lastWindow := fun h => by cases h
      stoppingIsQuiet := fun h => by cases h
      readyWords := fun b h => by simp [hbst] at h
      playIsRun := fun h => absurd rfl h
      filledWords := fun h => by cases h
      storedWords := fun b => by cases b <;> exact ⟨rfl, rfl, fun e he => by cases he⟩
      noneFree := fun h => by cases h
      errStaysIdle := fun _ => ⟨rfl, rfl⟩
      pwmRange := ⟨hmax, hidle⟩ }

/-- Settles O52, by the reset table (rule R48). -/
theorem invariantsHoldAfterReset : Obligations.InvariantsHoldAfterReset := by
  unfold Obligations.InvariantsHoldAfterReset
  have hstandard : Config.standard.instanceOk = true := by
    have hok := standard_ok
    simp only [Config.ok, Bool.and_eq_true] at hok
    exact hok.1
  exact ⟨fun _ hc => inv_resetOf hc, inv_resetOf hstandard⟩

/-! ## What the place of a buffer says (rule R46 I1) -/

section Places

variable {s : State} {b : BufId}

/-- The four places, counted. -/
theorem places_eq (s : State) (b : BufId) : places s b = s.rq.count b + s.pq.count b +
    (if s.fillBusy = true ∧ s.fillBuf = b then 1 else 0) + if s.pst = .play ∧ s.playBuf = b then 1 else 0 := by
  have htoNat : ∀ (p : Prop) [Decidable p], (decide p).toNat = if p then 1 else 0 := fun p _ => by
    by_cases hp : p <;> simp [hp]
  have hfilled : beingFilled s b = decide (s.fillBusy = true ∧ s.fillBuf = b) := by simp [beingFilled]
  have hplayed : beingPlayed s b = decide (s.pst = .play ∧ s.playBuf = b) := by simp [beingPlayed]
  rw [places, hfilled, hplayed, htoNat, htoNat]

/-- A buffer is in one place at most. -/
theorem Inv.places_le_one (h : Inv s) (b : BufId) : places s b ≤ 1 := by
  have := h.placedOnce b
  split at this <;> omega

/-- A buffer in `PQ` is there once and nowhere else, so it is `READY`. -/
theorem Inv.queued (h : Inv s) (hb : b ∈ s.pq) :
    s.pq.count b = 1 ∧ beingFilled s b = false ∧ s.bst.get b = .ready := by
  have hcount : 0 < s.pq.count b := List.count_pos_iff.mpr hb
  have hle := h.places_le_one b
  unfold places at hle
  have hfilled : beingFilled s b = false := Bool.toNat_eq_zero.mp (by omega)
  exact ⟨by omega, hfilled, by simp [h.bstIsPlace, placeState, hfilled, hb]⟩

/-- The buffer being filled is `FILLING`. -/
theorem Inv.filling (h : Inv s) (hb : beingFilled s b = true) : s.bst.get b = .filling := by
  simp [h.bstIsPlace, placeState, hb]

/-- The buffer being played is neither ready nor filled, so it is `PLAYING`. -/
theorem Inv.played (h : Inv s) (hb : beingPlayed s b = true) :
    b ∉ s.pq ∧ beingFilled s b = false ∧ s.bst.get b = .playing := by
  have hle := h.places_le_one b
  unfold places at hle
  rw [hb, Bool.toNat_true] at hle
  have hfilled : beingFilled s b = false := Bool.toNat_eq_zero.mp (by omega)
  have hpq : b ∉ s.pq := List.count_eq_zero.mp (by omega)
  exact ⟨hpq, hfilled, by simp [h.bstIsPlace, placeState, hb, hfilled, hpq]⟩

/-- A buffer in none of the places of `PQ`, fill and play is `EMPTY`. -/
theorem Inv.empty (h : Inv s) (hpq : b ∉ s.pq) (hfilled : beingFilled s b = false) (hplayed : beingPlayed s b = false) :
    s.bst.get b = .empty := by
  simp [h.bstIsPlace, placeState, hpq, hfilled, hplayed]

/-- A buffer that the block does not have is `EMPTY` (log 15). -/
theorem Inv.absent (h : Inv s) (hb : s.cfg.hasBuf b = false) : s.bst.get b = .empty := by
  have hle := h.placedOnce b
  rw [hb] at hle
  unfold places at hle
  simp only [Bool.false_eq_true, if_false] at hle
  exact h.empty (List.count_eq_zero.mp (by omega)) (Bool.toNat_eq_zero.mp (by omega)) (Bool.toNat_eq_zero.mp (by omega))

end Places

/-! ## Operations that no invariant speaks of -/

section Frame

variable {s : State}

theorem Inv.beginStep (h : Inv s) : Inv s.beginStep := { h with }

theorem Inv.raise (h : Inv s) (x : ErrFlag) : Inv (s.raise x) := by
  cases x <;> exact { h with }

end Frame

/-! ## Commands keep the invariants -/

section Commands

variable {s : State}

/-- `VFREQ[ch] <- f` is not seen by what does not look at a pending word. -/
theorem map_voices_setVfreq {α : Type} (g : Voice → α) (hg : ∀ v f, g { v with vfreq := f } = g v) (s : State)
    (ch : Nat) (f : FreqWord) : (s.setVfreq ch f).voices.map g = s.voices.map g := by
  apply List.ext_getElem?
  intro i
  simp only [setVfreq_voices, List.getElem?_map, List.getElem?_modify]
  cases s.voices[i]? with
  | none => rfl
  | some v => by_cases hi : ch = i <;> simp [hi, hg]

/-- VFREQ touches nothing that is latched (rule R118). -/
theorem Inv.setVfreq (h : Inv s) (ch : Nat) (f : FreqWord) : Inv (s.setVfreq ch f) := by
  have hact := map_voices_setVfreq Voice.vact (fun _ _ => rfl) s ch f
  have hrange := map_voices_setVfreq (fun v => (v.phase, v.vstep)) (fun _ _ => rfl) s ch f
  have hcount : ∀ l : List Voice, l.countP Voice.vact = (l.map Voice.vact).countP id := fun l => by
    simp [List.countP_map]
  have hall : ∀ l : List Voice, (∀ v ∈ l, v.phase < s.cfg.phmod ∧ v.vstep < s.cfg.phmod) ↔
      ∀ r ∈ l.map (fun v => (v.phase, v.vstep)), r.1 < s.cfg.phmod ∧ r.2 < s.cfg.phmod := fun l => by
    simp only [List.forall_mem_map]
  exact
    { h with
      voiceCount := by rw [setVfreq_voices, List.length_modify]; exact h.voiceCount
      activeCount := by rw [hcount, hact, ← hcount]; exact h.activeCount
      voiceRange := (hall _).mpr (hrange ▸ (hall _).mp h.voiceRange) }

/-- START requests each buffer of the block once (rule R163). -/
theorem count_startRequests {c : Config} (hc : c.nbuf = 1 ∨ c.nbuf = 2) (b : BufId) :
    (startRequests c).count b = if c.hasBuf b then 1 else 0 := by
  rcases hc with hc | hc <;> cases b <;> simp [startRequests, Config.hasBuf, BufId.idx, hc]

/-- START: out of idle every buffer is empty, and each is requested (rule R162). -/
theorem Inv.execStart {t : State} (h : Inv s) (ht : execStart s = .next t) : Inv t := by
  unfold Machine.execStart at ht
  split at ht
  · cases ht
    exact h.raise _
  next hok =>
  split at ht
  next hidle =>
    cases ht
    obtain ⟨hb, hnbuf, -⟩ := ranges_of_instanceOk h.isInstance
    obtain ⟨hpst, hbusy, -, -, -, -, hb0, hb1⟩ := h.idleIsQuiet hidle
    have hbst : ∀ b, s.bst.get b = .empty := by
      intro b
      cases b
      · exact hb0
      · exact hb1
    have hplaces : ∀ b, places { s with
        sst := .run, pst := .prime, rq := startRequests s.cfg, pq := [], silCnt := 0, lastw := false,
        pollPend := true, rdIdx := 0 } b = if s.cfg.hasBuf b then 1 else 0 := by
      intro b
      simp [places, beingFilled, beingPlayed, hbusy, count_startRequests hnbuf]
    exact
      { h with
        placedOnce := fun b => (hplaces b).le
        bstIsPlace := fun b => by simp [placeState, beingFilled, beingPlayed, hbusy, hbst]
        rdRange := hb
        silRange := Nat.zero_le _
        idleIsQuiet := fun hi => by cases hi
        lastWindow := fun hl => by cases hl
        stoppingIsQuiet := fun hs => by cases hs
        playIsRun := fun _ => rfl
        noneFree := fun _ _ b hhas => by rw [hplaces, if_pos hhas]
        errStaysIdle := fun he => absurd he hok }
  next =>
    cases ht
    exact h

/-- What STOP leaves of a buffer: it is empty unless it is being filled (rule R164). -/
theorem Inv.get_dropBuffers (h : Inv s) (b : BufId) :
    s.dropBuffers.get b = if beingFilled s b then .filling else .empty := by
  have hget : s.dropBuffers.get b = if s.cfg.hasBuf b && !beingFilled s b then .empty else s.bst.get b := by
    cases b <;> rfl
  rw [hget]
  cases hf : beingFilled s b with
  | true => simp [h.filling hf]
  | false =>
    cases hhas : s.cfg.hasBuf b with
    | true => rfl
    | false => simpa using h.absent hhas

/-- STOP empties the queues and every buffer but the one being filled (rules R164, R165). -/
theorem Inv.execStop {t : State} (h : Inv s) (ht : execStop s = .next t) : Inv t := by
  unfold Machine.execStop at ht
  split at ht
  next hrun =>
    cases ht
    have hplaces : ∀ b, places { s with
        rq := [], pq := [], lastw := false, pollPend := false, pst := .off, bst := s.dropBuffers,
        sst := if s.fillBusy then .stopping else .idle } b = (beingFilled s b).toNat := by
      intro b
      simp [places, beingFilled, beingPlayed]
    exact
      { h with
        placedOnce := fun b => (by rw [hplaces]; unfold places; omega : _ ≤ places s b).trans (h.placedOnce b)
        bstIsPlace := fun b => by
          simp only [h.get_dropBuffers, placeState, beingFilled, beingPlayed, List.not_mem_nil, if_false]
          rfl
        idleIsQuiet := fun hi => by
          dsimp only at hi
          split at hi
          · cases hi
          next hbusy =>
            have hempty : ∀ b, s.dropBuffers.get b = .empty := fun b => by
              simp [h.get_dropBuffers, beingFilled, hbusy]
            exact ⟨rfl, eq_false_of_ne_true hbusy, rfl, rfl, rfl, rfl, hempty .b0, hempty .b1⟩
        lastWindow := fun hl => by cases hl
        stoppingIsQuiet := fun hs => by
          dsimp only at hs
          split at hs
          next hbusy => exact ⟨hbusy, rfl, rfl, rfl, rfl, rfl⟩
          · cases hs
        readyWords := fun b hb => by
          simp only [h.get_dropBuffers] at hb
          split at hb <;> simp at hb
        playIsRun := fun hp => absurd rfl hp
        noneFree := fun hr => by split at hr <;> cases hr
        errStaysIdle := fun he => by simp [(h.errStaysIdle he).1] at hrun }
  next =>
    cases ht
    exact h

/-- POLL is remembered only for a waiting request (rule R166). -/
theorem Inv.execPoll {t : State} (h : Inv s) (ht : execPoll s = .next t) : Inv t := by
  unfold Machine.execPoll at ht
  split at ht
  next hreq =>
    obtain ⟨hrun, hrq⟩ := hreq
    cases ht
    exact
      { h with
        idleIsQuiet := fun hi => by simp [hrun] at hi
        lastWindow := fun hl => by
          obtain ⟨-, -, hnone, -⟩ := h.lastWindow hl
          simp [hnone] at hrq
        stoppingIsQuiet := fun hs => by simp [hrun] at hs }
  next =>
    cases ht
    exact h

/-- Every command keeps the invariants. -/
theorem Inv.exec {t : State} (h : Inv s) (i : Instr) (ht : exec i s = .next t) : Inv t := by
  cases i with
  | vfreq ch freq =>
    simp only [Machine.exec, execVfreq] at ht
    split at ht
    · cases ht; exact h.raise _
    split at ht
    · cases ht; exact (h.setVfreq _ _).raise _
    · cases ht; exact h.setVfreq _ _
  | start => exact h.execStart ht
  | stop => exact h.execStop ht
  | poll => exact h.execPoll ht
  | mode auto =>
    simp only [Machine.exec, execMode] at ht
    split at ht
    · cases ht; exact h.raise _
    · cases ht; exact { h with }
  | nop => cases ht; exact h
  | fxset | rdstat | clrerr => cases ht; exact { h with }
  | reserved9 | reservedA | reservedB | reservedC | reservedD | reservedE | reservedF => cases ht; exact h.raise _

end Commands

/-! ## The refill engine keeps the invariants -/

section RefillEngine

variable {s : State}

/-- RefillStart is enabled only in a run, with no refill in progress and not in the last window (rule R170). -/
theorem refillStartEnabled_iff : s.refillStartEnabled = true ↔
    s.sst = .run ∧ s.fillBusy = false ∧ 0 < s.rq.length ∧ s.lastw = false ∧ (s.auto = true ∨ s.pollPend = true) := by
  simp [State.refillStartEnabled, and_assoc]

theorem stepOf_lt_phmod {c : Config} (hc : 0 < c.phmod) (f : Nat) : stepOf c f < c.phmod := by
  unfold stepOf
  omega

theorem phaseAdv_lt_phmod {c : Config} {p x : Nat} (hp : p < c.phmod) (hx : x < c.phmod) :
    phaseAdv c p x < c.phmod := by
  unfold phaseAdv
  split <;> omega

/-- Sub-steps 2 and 3 of RefillStart: the latched steps are in range (rules R119, R122). -/
theorem Inv.latchAndCount (h : Inv s) : Inv s.latchInputs.countSilence := by
  obtain ⟨-, -, -, -, -, hphmod⟩ := ranges_of_instanceOk h.isInstance
  exact
    { h with
      voiceCount := by simpa using h.voiceCount
      activeCount := by
        simp only [countSilence_nact, latchInputs_nact, countSilence_voices, latchInputs_voices, List.countP_map]
        rfl
      voiceRange := by
        simp only [countSilence_voices, latchInputs_voices, List.forall_mem_map]
        exact fun v hv => ⟨(h.voiceRange v hv).1, stepOf_lt_phmod hphmod _⟩
      silRange := by
        simp only [countSilence_silCnt]
        split
        · exact Nat.min_le_right _ _
        · exact Nat.zero_le _ }

/-- The silence cut-off: the requests are dropped and the last window begins (rule R172). -/
theorem Inv.cutOff (h : Inv s) (hrun : s.sst = .run) (hbusy : s.fillBusy = false) :
    Inv { s with rq := [], pollPend := false, lastw := true } := by
  have hplaces : ∀ b, places { s with rq := [], pollPend := false, lastw := true } b ≤ places s b := by
    intro b
    simp only [places, beingFilled, beingPlayed, List.count_nil]
    omega
  exact
    { h with
      placedOnce := fun b => (hplaces b).trans (h.placedOnce b)
      idleIsQuiet := fun hi => by simp [hrun] at hi
      lastWindow := fun _ => ⟨hrun, hbusy, rfl, rfl⟩
      stoppingIsQuiet := fun hs => by simp [hrun] at hs
      noneFree := fun _ hl => by cases hl }

/-- The requested buffer begins to be filled, with a new refill number (rule R170; log 25). -/
theorem Inv.beginFill (h : Inv s) {k : BufId} {rest : List BufId} (hrun : s.sst = .run) (hbusy : s.fillBusy = false)
    (hlast : s.lastw = false) (hrq : s.rq = k :: rest) :
    Inv { s with
      rq := rest, pollPend := false, fillBuf := k, fillBusy := true, wrIdx := 0, bst := s.bst.set k .filling,
      refillNo := s.refillNo.set k (s.refillNo.get k + 1) } := by
  have hplaces : ∀ b, places { s with
      rq := rest, pollPend := false, fillBuf := k, fillBusy := true, wrIdx := 0, bst := s.bst.set k .filling,
      refillNo := s.refillNo.set k (s.refillNo.get k + 1) } b = places s b := by
    intro b
    simp only [places_eq, hrq, hbusy, List.count_cons, beq_iff_eq, true_and, Bool.false_eq_true, false_and, if_false]
    omega
  exact
    { h with
      placedOnce := fun b => (hplaces b).le.trans (h.placedOnce b)
      bstIsPlace := fun b => by
        by_cases hb : k = b
        · subst hb
          simp [placeState, beingFilled]
        · simp [h.bstIsPlace, placeState, beingFilled, beingPlayed, hbusy, hb]
      wrRange := Nat.zero_le _
      idleIsQuiet := fun hi => by simp [hrun] at hi
      lastWindow := fun hl => by simp [hlast] at hl
      stoppingIsQuiet := fun hs => by simp [hrun] at hs
      readyWords := fun b hb i hi => by
        by_cases hkb : k = b
        · simp [hkb] at hb
        · have hold := h.readyWords b (by simpa [hkb] using hb) i hi
          simpa [holdsDuty, hkb] using hold
      filledWords := fun _ i hi => absurd hi (Nat.not_lt_zero i)
      noneFree := fun hr hl b hhas => (hplaces b).trans (h.noneFree hr hl b hhas) }

theorem Inv.refillStart (h : Inv s) {k : BufId} {rest : List BufId} (hen : s.refillStartEnabled = true)
    (hrq : s.rq = k :: rest) : Inv (s.refillStart k rest) := by
  obtain ⟨hrun, hbusy, -, hlast, -⟩ := refillStartEnabled_iff.mp hen
  rcases cutOffOrFill_cases (State.latchInputs { s with rq := rest, pollPend := false }).countSilence k with
    ⟨-, -, heq⟩ | ⟨-, heq⟩ <;> rw [State.refillStart, heq]
  · exact h.latchAndCount.cutOff hrun hbusy
  · exact h.latchAndCount.beginFill hrun hbusy hlast hrq

/-- A sample is at most `DUTY_MAX` (rule R148). -/
theorem mixSample_le_dutyMax {d : Nat} (hidle : s.cfg.idleDuty ≤ s.cfg.dutyMax) (hd : s.mixSample = .ok d) :
    d ≤ s.cfg.dutyMax := by
  rcases mixSample_ok hd with ⟨-, rfl⟩ | ⟨-, acc, -, heff⟩
  · exact hidle
  · obtain ⟨r, y, -, -, rfl⟩ := effectStage_some heff
    exact Nat.min_le_right _ _

/-- The word RefillSample writes is one of the refill in progress (log 25). -/
theorem holdsDuty_refillWrite_same {d : Nat} (hd : d ≤ s.cfg.dutyMax) :
    holdsDuty (s.refillWrite d) s.fillBuf s.wrIdx := by
  refine ⟨⟨d, ?_, hd⟩, ?_⟩ <;> simp

/-- RefillSample leaves every other word. -/
theorem holdsDuty_refillWrite_other {b : BufId} {i d : Nat} (hne : b ≠ s.fillBuf ∨ i ≠ s.wrIdx)
    (hold : holdsDuty s b i) : holdsDuty (s.refillWrite d) b i := by
  by_cases hb : s.fillBuf = b
  · subst hb
    have hi : i ≠ s.wrIdx := by tauto
    simpa [holdsDuty, hi] using hold
  · simpa [holdsDuty, hb] using hold

theorem Inv.refillSample (h : Inv s) {t : State} (hen : s.refillSampleEnabled = true)
    (ht : s.refillSample = .next t) : Inv t := by
  obtain ⟨hbusy, hwr⟩ : s.fillBusy = true ∧ s.wrIdx < s.cfg.b := by simpa [State.refillSampleEnabled] using hen
  obtain ⟨d, hmix, hhas, rfl⟩ := refillSample_next ht
  obtain ⟨-, -, -, hidle, htmod, -⟩ := ranges_of_instanceOk h.isInstance
  have hd : d ≤ s.cfg.dutyMax := mixSample_le_dutyMax hidle hmix
  have hfilling : s.bst.get s.fillBuf = .filling := h.filling (by simp [beingFilled, hbusy])
  exact
    { h with
      voiceCount := by simpa using h.voiceCount
      activeCount := by
        have hvact : Voice.vact ∘ Voice.advance s.cfg = Voice.vact := by
          funext v
          simp only [Function.comp_apply, Voice.advance]
          split <;> rfl
        simp only [refillWrite_nact, refillWrite_voices, List.countP_map, hvact, h.activeCount]
      voiceRange := by
        simp only [refillWrite_voices, List.forall_mem_map, Voice.advance]
        intro v hv
        obtain ⟨hphase, hstep⟩ := h.voiceRange v hv
        split
        · exact ⟨phaseAdv_lt_phmod hphase hstep, hstep⟩
        · exact ⟨hphase, hstep⟩
      tphRange := Nat.mod_lt _ htmod
      wrRange := hwr
      readyWords := fun b hb i hi => by
        refine holdsDuty_refillWrite_other (.inl ?_) (h.readyWords b hb i hi)
        rintro rfl
        simp [hfilling] at hb
      filledWords := fun _ i hi => by
        by_cases hlast : i = s.wrIdx
        · exact hlast ▸ holdsDuty_refillWrite_same hd
        · exact holdsDuty_refillWrite_other (.inr hlast) (h.filledWords hbusy i (by simp at hi; omega))
      storedWords := fun b => by
        obtain ⟨hwf, hnum, hwords⟩ := h.storedWords b
        by_cases hb : s.fillBuf = b
        · subst hb
          simp only [refillWrite_obuf, refillWrite_wordRefill, PerBuf_get_set_same]
          refine ⟨memWf_memSet _ _ _ hwf, memWf_memSet _ _ _ hnum, fun e he => ?_⟩
          rcases mem_memSet he with hold | rfl
          · exact hwords e hold
          · exact ⟨hhas, hd⟩
        · simp only [refillWrite_obuf, refillWrite_wordRefill, PerBuf_get_set_ne _ _ _ _ hb]
          exact ⟨hwf, hnum, hwords⟩ }

/-- A refill that ends in a run hands its buffer over (rule R178). -/
theorem Inv.handOver (h : Inv s) (hbusy : s.fillBusy = true) (hfull : s.wrIdx = s.cfg.b) (hrun : s.sst = .run) :
    Inv { s with fillBusy := false, bst := s.bst.set s.fillBuf .ready, pq := s.pq ++ [s.fillBuf] } := by
  have hplaces : ∀ b, places { s with
      fillBusy := false, bst := s.bst.set s.fillBuf .ready, pq := s.pq ++ [s.fillBuf] } b = places s b := by
    intro b
    simp only [places_eq, hbusy, List.count_append, List.count_singleton, beq_iff_eq, true_and, Bool.false_eq_true,
      false_and, if_false]
    omega
  exact
    { h with
      placedOnce := fun b => (hplaces b).le.trans (h.placedOnce b)
      bstIsPlace := fun b => by
        by_cases hb : s.fillBuf = b
        · subst hb
          simp [placeState, beingFilled]
        · have hbf : b ≠ s.fillBuf := Ne.symm hb
          simp [h.bstIsPlace, placeState, beingFilled, beingPlayed, hb, hbf]
      idleIsQuiet := fun hi => by simp [hrun] at hi
      lastWindow := fun hl => by
        obtain ⟨-, hnot, -, -⟩ := h.lastWindow hl
        simp [hnot] at hbusy
      stoppingIsQuiet := fun hs => by simp [hrun] at hs
      readyWords := fun b hb i hi => by
        by_cases hbf : s.fillBuf = b
        · exact hbf ▸ h.filledWords hbusy i (hfull ▸ hi)
        · exact h.readyWords b (by simpa [hbf] using hb) i hi
      filledWords := fun hf => by cases hf
      noneFree := fun hr hl b hhas => (hplaces b).trans (h.noneFree hr hl b hhas) }

/-- A refill that STOP has caught is discarded when it ends, and the block is idle (rules R165, R178). -/
theorem Inv.discard (h : Inv s) (hstop : s.sst = .stopping) :
    Inv { s with fillBusy := false, bst := s.bst.set s.fillBuf .empty, sst := .idle } := by
  obtain ⟨-, hpst, hrq, hpq, hlast, hpoll⟩ := h.stoppingIsQuiet hstop
  have hempty : ∀ b, (s.bst.set s.fillBuf .empty).get b = .empty := by
    intro b
    by_cases hb : s.fillBuf = b
    · simp [hb]
    · rw [PerBuf_get_set_ne _ _ _ _ hb]
      exact h.empty (by simp [hpq]) (by simp [beingFilled, hb]) (by simp [beingPlayed, hpst])
  have hplaces : ∀ b, places { s with
      fillBusy := false, bst := s.bst.set s.fillBuf .empty, sst := .idle } b = 0 := by
    intro b
    simp [places_eq, hpst, hrq, hpq]
  exact
    { h with
      placedOnce := fun b => by rw [hplaces]; exact Nat.zero_le _
      bstIsPlace := fun b => by simp [hempty, placeState, beingFilled, beingPlayed, hpst, hpq]
      idleIsQuiet := fun _ => ⟨hpst, rfl, hrq, hpq, hlast, hpoll, hempty .b0, hempty .b1⟩
      lastWindow := fun hl => by simp [hlast] at hl
      stoppingIsQuiet := fun hs => by cases hs
      readyWords := fun b hb => by simp [hempty] at hb
      playIsRun := fun hp => absurd hpst hp
      filledWords := fun hf => by cases hf
      noneFree := fun hr => by cases hr
      errStaysIdle := fun he => ⟨rfl, (h.errStaysIdle he).2⟩ }

theorem Inv.refillDone (h : Inv s) (hen : s.refillDoneEnabled = true) : Inv s.refillDone := by
  obtain ⟨hbusy, hfull⟩ : s.fillBusy = true ∧ s.wrIdx = s.cfg.b := by simpa [State.refillDoneEnabled] using hen
  rcases refillDone_cases s with ⟨hrun, heq⟩ | ⟨hrun, heq⟩ <;> rw [heq]
  · exact h.handOver hbusy hfull hrun
  · refine h.discard ?_
    cases hs : s.sst with
    | run => exact absurd hs hrun
    | stopping => rfl
    | idle =>
      obtain ⟨-, hnot, -⟩ := h.idleIsQuiet hs
      simp [hnot] at hbusy

/-- The refill engine's turn, whichever of its steps is enabled (rule R169). -/
theorem Inv.refillTurn (h : Inv s) {t : State} (ht : refillTurn s = .next t) : Inv t := by
  rcases refillTurn_next ht with ⟨hen, k, rest, hrq, rfl⟩ | ⟨-, hen, hsample⟩ | ⟨-, -, hen, rfl⟩ | ⟨-, -, -, rfl⟩
  · exact h.refillStart hen hrq
  · exact h.refillSample hen hsample
  · exact h.refillDone hen
  · exact h

end RefillEngine

/-! ## The playback engine keeps the invariants -/

section PlaybackEngine

variable {s t : State}

/-- Out of `OFF` the run is on, and no block with a configuration error gets there (I7, rule R243). -/
theorem Inv.running (h : Inv s) (hp : s.pst ≠ .off) : s.sst = .run ∧ s.cfg.cfgErr = false := by
  have hrun := h.playIsRun hp
  refine ⟨hrun, ?_⟩
  by_contra he
  simp [(h.errStaysIdle (by simpa using he)).1] at hrun

/-- Sub-step 1 of SampleTick (rule R202). -/
theorem Inv.acquire (h : Inv s) : Inv s.acquire := by
  rcases acquire_cases s with ⟨k, rest, hp, hpq, heq⟩ | ⟨-, -, heq⟩ | ⟨-, heq⟩ <;> rw [heq]
  case inr.inl => exact h
  case inr.inr => exact h
  have hplay : s.pst ≠ .play := by rcases hp with hp | hp <;> simp [hp]
  obtain ⟨hrun, -⟩ := h.running (by rcases hp with hp | hp <;> simp [hp])
  obtain ⟨hone, hkfilled, hkready⟩ := h.queued (b := k) (by simp [hpq])
  have hkrest : k ∉ rest := by
    rw [hpq, List.count_cons_self] at hone
    exact List.count_eq_zero.mp (by omega)
  have hplaces : ∀ b, places { s with
      pq := rest, playBuf := k, rdIdx := 0, bst := s.bst.set k .playing, pst := .play } b = places s b := by
    intro b
    simp only [places_eq, hpq, hplay, List.count_cons, beq_iff_eq, true_and, false_and, if_false]
    omega
  exact
    { h with
      placedOnce := fun b => (hplaces b).le.trans (h.placedOnce b)
      bstIsPlace := fun b => by
        by_cases hb : k = b
        · subst hb
          have hfilled : ¬ (s.fillBusy = true ∧ s.fillBuf = k) := by simpa [beingFilled] using hkfilled
          simp [placeState, beingFilled, beingPlayed, hkrest, hfilled]
        · have hbk : b ≠ k := Ne.symm hb
          simp [h.bstIsPlace, placeState, beingFilled, beingPlayed, hpq, hplay, hb, hbk]
      rdRange := (Nat.zero_le _).trans_lt h.rdRange
      idleIsQuiet := fun hi => by simp [hrun] at hi
      stoppingIsQuiet := fun hs => by simp [hrun] at hs
      readyWords := fun b hb i hi => by
        by_cases hbk : k = b
        · subst hbk
          exact h.readyWords k (.inl hkready) i hi
        · exact h.readyWords b (by simpa [hbk] using hb) i hi
      playIsRun := fun _ => hrun
      noneFree := fun hr hl b hhas => (hplaces b).trans (h.noneFree hr hl b hhas) }

/-- After sub-step 1 a buffer is being played or none is ready (rule R202). -/
theorem pq_acquire (hp : s.acquire.pst = .prime ∨ s.acquire.pst = .wait) : s.acquire.pq = [] := by
  rcases acquire_cases s with ⟨k, rest, -, -, heq⟩ | ⟨-, hpq, heq⟩ | ⟨hs, heq⟩ <;> rw [heq] at hp ⊢
  · simp at hp
  · exact hpq
  · rcases hs with hs | hs <;> simp [hs] at hp

/-- A word that is played was written by a refill, so it is a duty value (I6). -/
theorem Inv.played_le_dutyMax (h : Inv s) {v : Nat} (hp : s.pst = .play)
    (hv : s.obufRead s.playBuf s.rdIdx = some v) : v ≤ s.cfg.dutyMax := by
  obtain ⟨-, -, hplaying⟩ := h.played (b := s.playBuf) (by simp [beingPlayed, hp])
  obtain ⟨⟨x, hx, hle⟩, -⟩ := h.readyWords s.playBuf (.inr hplaying) s.rdIdx h.rdRange
  unfold State.obufRead at hv
  split at hv
  · rw [State.wordAt, hx] at hv
    cases hv
    exact hle
  · cases hv

/-- The drain: the played buffer is empty and, but for the last window, requested again (rule R204). -/
theorem Inv.drain (h : Inv s) (hp : s.pst = .play) : Inv s.drain := by
  obtain ⟨hrun, -⟩ := h.running (by simp [hp])
  obtain ⟨hpq, hfilled, -⟩ := h.played (b := s.playBuf) (by simp [beingPlayed, hp])
  have hkeeps : ∀ b, beingFilled s.drain b = beingFilled s b := fun b => rfl
  have hplayed : ∀ b, beingPlayed s.drain b = false := fun b => rfl
  have hrequested : ∀ b, places s.drain b + (if s.lastw = true ∧ s.playBuf = b then 1 else 0) = places s b := by
    intro b
    have hwas : beingPlayed s b = decide (s.playBuf = b) := by simp [beingPlayed, hp]
    simp only [places, hkeeps, hplayed, hwas, drain_rq, drain_pq]
    cases s.lastw with
    | true => by_cases hb : s.playBuf = b <;> simp [hb]
    | false =>
      by_cases hb : s.playBuf = b
      · simp [hb]
        omega
      · simp [hb]
  exact
    { h with
      placedOnce := fun b => ((Nat.le_add_right _ _).trans (hrequested b).le).trans (h.placedOnce b)
      bstIsPlace := fun b => by
        by_cases hb : s.playBuf = b
        · subst hb
          simp [placeState, hkeeps, hplayed, hfilled, hpq]
        · have hother : beingPlayed s b = false := by simp [beingPlayed, hb]
          simp [h.bstIsPlace, placeState, hkeeps, hplayed, hother, hb]
      rdRange := (Nat.zero_le _).trans_lt h.rdRange
      idleIsQuiet := fun hi => by simp [hrun] at hi
      lastWindow := fun hl => by
        rw [drain_lastw] at hl
        rw [drain_rq, if_pos hl]
        exact h.lastWindow hl
      stoppingIsQuiet := fun hs => by simp [hrun] at hs
      readyWords := fun b hb i hi => by
        by_cases hbp : s.playBuf = b
        · simp [hbp] at hb
        · exact h.readyWords b (by simpa [hbp] using hb) i hi
      playIsRun := fun _ => hrun
      noneFree := fun hr hl b hhas => by
        rw [drain_lastw] at hl
        have heq := hrequested b
        simp only [hl, Bool.false_eq_true, false_and, if_false, Nat.add_zero] at heq
        exact heq.trans (h.noneFree hr hl b hhas) }

/-- The emit of a word, with the drain after the last one (rules R203, R204). -/
theorem Inv.emit (h : Inv s) {v : Nat} (hp : s.pst = .play) (hv : v ≤ s.cfg.dutyMax) : Inv (s.emit v) := by
  obtain ⟨-, hok⟩ := h.running (by simp [hp])
  have hduty : Inv { s with duty := v } :=
    { h with dutyRange := hv, errStaysIdle := fun he => absurd he (by simp [hok]) }
  rcases emit_cases s v with ⟨-, heq⟩ | ⟨hmore, heq⟩ <;> rw [heq]
  · exact hduty.drain hp
  · exact { hduty with rdRange := Nat.lt_of_le_of_ne h.rdRange hmore }

/-- The end of the last window (rule R206). -/
theorem Inv.goIdle (h : Inv s) (hpq : s.pq = []) (hp : s.pst = .prime ∨ s.pst = .wait) (hl : s.lastw = true) :
    Inv s.goIdle := by
  obtain ⟨-, -, -, hidle, -⟩ := ranges_of_instanceOk h.isInstance
  obtain ⟨-, hbusy, hrq, hpoll⟩ := h.lastWindow hl
  have hplay : s.pst ≠ .play := by rcases hp with hp | hp <;> simp [hp]
  have hempty : ∀ b, s.bst.get b = .empty := fun b =>
    h.empty (by simp [hpq]) (by simp [beingFilled, hbusy]) (by simp [beingPlayed, hplay])
  have hplaces : ∀ b, places s.goIdle b = 0 := by
    intro b
    simp [places_eq, hbusy, hrq, hpq]
  exact
    { h with
      placedOnce := fun b => by rw [hplaces]; exact Nat.zero_le _
      bstIsPlace := fun b => by simp [hempty, placeState, beingFilled, beingPlayed, hbusy, hpq]
      dutyRange := hidle
      idleIsQuiet := fun _ => ⟨rfl, hbusy, hrq, hpq, rfl, hpoll, hempty .b0, hempty .b1⟩
      lastWindow := fun hl => by cases hl
      stoppingIsQuiet := fun hs => by cases hs
      playIsRun := fun hp => absurd rfl hp
      noneFree := fun hr => by cases hr
      errStaysIdle := fun _ => ⟨rfl, rfl⟩ }

/-- The idle value sounds (rule R205). -/
theorem Inv.emitIdle (h : Inv s) : Inv { s with duty := s.cfg.idleDuty } := by
  obtain ⟨-, -, -, hidle, -⟩ := ranges_of_instanceOk h.isInstance
  exact { h with dutyRange := hidle, errStaysIdle := fun he => ⟨(h.errStaysIdle he).1, rfl⟩ }

/-- Sub-step 2 of SampleTick (rule R201). -/
theorem Inv.tickCase (h : Inv s) (hpq : s.pst = .prime ∨ s.pst = .wait → s.pq = []) (ht : s.tickCase = .next t) :
    Inv t := by
  rcases tickCase_next ht with ⟨hp, v, hv, rfl⟩ | ⟨hp, hl, rfl⟩ | ⟨-, -, rfl⟩ | ⟨hp, hl, rfl⟩ | ⟨-, -, -, rfl⟩ |
    ⟨-, -, -, rfl⟩ | ⟨-, rfl⟩
  · exact h.emit hp (h.played_le_dutyMax hp hv)
  · exact h.goIdle (hpq (.inl hp)) (.inl hp) hl
  · exact h.emitIdle
  · exact h.goIdle (hpq (.inr hp)) (.inr hp) hl
  · exact h.raise _
  · exact h
  · exact h.emitIdle

/-- SampleTick at the end of a sample period (rules R201, R214). -/
theorem Inv.periodBoundary (h : Inv s) (ht : periodBoundary s = .next t) : Inv t := by
  obtain ⟨u, hu, rfl⟩ := periodBoundary_next ht
  obtain ⟨v, hv, rfl⟩ := sampleTick_next hu
  have hinv : Inv v := h.acquire.tickCase pq_acquire hv
  obtain ⟨-, -, hmax, -⟩ := ranges_of_instanceOk hinv.isInstance
  exact { hinv with pwmRange := ⟨hmax, hinv.dutyRange⟩ }

theorem Inv.pwmCycle (h : Inv s) (ht : pwmCycle s = .next t) : Inv t := by
  rcases pwmCycle_next ht with ⟨hcnt, rfl⟩ | ⟨-, hb⟩
  · exact { h with pwmRange := ⟨hcnt, h.pwmRange.2⟩ }
  · exact h.periodBoundary hb

end PlaybackEngine

/-! ## Every step keeps the invariants -/

/-- A reset edge gives the reset state of the same configuration (rule R270). -/
theorem Inv.resetEdge {s : State} (h : Inv s) : Inv s.resetEdge := { inv_resetOf h.isInstance with }

theorem Inv.takeTurn {s t : State} {u : Turn} (h : Inv s) (ht : takeTurn u s = .next t) : Inv t := by
  rcases takeTurn_next ht with ⟨-, rfl⟩ | ⟨-, rfl⟩ | ⟨-, -, rfl⟩ | ⟨-, w, -, hc⟩ | ⟨-, -, hr⟩ | ⟨-, -, hb⟩ | ⟨-, -, hp⟩
  · exact h.resetEdge
  · exact { h with }
  · exact h
  · exact h.exec _ hc
  · exact h.refillTurn hr
  · exact h.periodBoundary hb
  · exact h.pwmCycle hp

/-- Settles O53, agent by agent. -/
theorem everyStepKeepsTheInvariants : Obligations.EveryStepKeepsTheInvariants := by
  unfold Obligations.EveryStepKeepsTheInvariants
  intro s t h ht
  exact h.beginStep.takeTurn ht

/-! ## What looks at the pending registers (rules R49, R73, R135)

Every turn but a RefillStart and RDSTAT answers the same, up to the pending registers, when they are cleared first. -/

/-- A voice with its pending word cleared, as in `withoutPending`. -/
def latchedVoice (v : Voice) : Voice := Voice.mk 0 v.vstep v.vact v.phase

theorem withoutPending_voices (s : State) : (withoutPending s).voices = s.voices.map latchedVoice := rfl

/-- The outcome with the pending registers of its next state cleared. -/
def outcomeWithoutPending : Host.Outcome State Fault Refusal → Host.Outcome State Fault Refusal
  | .next t => .next (withoutPending t)
  | .fault r => .fault r
  | .refused r => .refused r

@[simp] theorem outcomeWithoutPending_next (t : State) :
    outcomeWithoutPending (.next t) = .next (withoutPending t) := rfl

theorem outcomeWithoutPending_ite (p : Prop) [Decidable p] (x y : Host.Outcome State Fault Refusal) :
    outcomeWithoutPending (if p then x else y) =
      if p then outcomeWithoutPending x else outcomeWithoutPending y :=
  apply_ite _ _ _ _

theorem withoutPending_ite (p : Prop) [Decidable p] (x y : State) :
    withoutPending (if p then x else y) = if p then withoutPending x else withoutPending y :=
  apply_ite _ _ _ _

@[simp] theorem withoutPending_withoutPending (s : State) : withoutPending (withoutPending s) = withoutPending s := by
  simp only [withoutPending, List.map_map]
  rfl

@[simp] theorem outcomeWithoutPending_idem (o : Host.Outcome State Fault Refusal) :
    outcomeWithoutPending (outcomeWithoutPending o) = outcomeWithoutPending o := by
  cases o with
  | next t => simp
  | fault r => rfl
  | refused r => rfl

section PendingUnread

variable (s : State)

/-- VFREQ changes a pending register and no other (rule R118). -/
@[simp] theorem withoutPending_setVfreq (ch : Nat) (f : FreqWord) :
    withoutPending (s.setVfreq ch f) = withoutPending s := by
  have hvoices := map_voices_setVfreq latchedVoice (fun _ _ => rfl) s ch f
  exact congrArg (fun vs => { withoutPending s with voices := vs }) hvoices

theorem raise_withoutPending (x : ErrFlag) : (withoutPending s).raise x = withoutPending (s.raise x) := by
  cases x <;> rfl

/-- VFREQ and FXSET write the pending registers, every other command but RDSTAT neither reads nor writes them. -/
theorem exec_withoutPending {i : Instr} (hi : i ≠ .rdstat) :
    outcomeWithoutPending (exec i (withoutPending s)) = outcomeWithoutPending (exec i s) := by
  cases i with
  | rdstat => exact absurd rfl hi
  | vfreq ch freq =>
    simp only [exec, execVfreq, outcomeWithoutPending_ite, outcomeWithoutPending_next, ← raise_withoutPending,
      withoutPending_setVfreq, withoutPending_withoutPending]
    rfl
  | fxset flags => exact congrArg Host.Outcome.next (withoutPending_withoutPending s)
  | start | stop | poll | mode =>
    rw [← outcomeWithoutPending_idem (exec _ s)]
    simp only [exec, execStart, execStop, execPoll, execMode, outcomeWithoutPending_ite, outcomeWithoutPending_next]
    rfl
  | nop | clrerr | reserved9 | reservedA | reservedB | reservedC | reservedD | reservedE | reservedF =>
    rw [← outcomeWithoutPending_idem (exec _ s)]
    rfl

theorem mixSum_withoutPending (c : Config) (vs : List Voice) :
    mixSum c (vs.map latchedVoice) = mixSum c vs := by
  induction vs with
  | nil => rfl
  | cons v vs ih => simp only [List.map_cons, mixSum, latchedVoice, ih]

/-- MixSample reads latched state only (rule R135). -/
theorem mixSample_withoutPending : (withoutPending s).mixSample = s.mixSample := by
  have hsum : mixSum (withoutPending s).cfg (withoutPending s).voices = mixSum s.cfg s.voices :=
    mixSum_withoutPending s.cfg s.voices
  unfold State.mixSample
  rw [hsum]
  rfl

theorem refillWrite_withoutPending (d : Nat) :
    (withoutPending s).refillWrite d = withoutPending (s.refillWrite d) := by
  have hcomm : Voice.advance s.cfg ∘ latchedVoice = latchedVoice ∘ Voice.advance s.cfg := by
    funext v
    cases hact : v.vact <;> simp [Voice.advance, latchedVoice, hact]
  have hvoices : (s.voices.map latchedVoice).map (Voice.advance s.cfg) =
      (s.voices.map (Voice.advance s.cfg)).map latchedVoice := by
    rw [List.map_map, hcomm, List.map_map]
  exact congrArg (fun vs => { withoutPending (s.refillWrite d) with voices := vs }) hvoices

theorem refillSample_withoutPending :
    (withoutPending s).refillSample = outcomeWithoutPending s.refillSample := by
  unfold State.refillSample
  rw [mixSample_withoutPending]
  cases s.mixSample with
  | error r => rfl
  | ok d =>
    simp only [outcomeWithoutPending_ite, outcomeWithoutPending_next, refillWrite_withoutPending]
    rfl

theorem refillDone_withoutPending : (withoutPending s).refillDone = withoutPending s.refillDone := by
  simp only [State.refillDone, withoutPending_ite]
  rfl

/-- Only RefillStart looks at the pending registers, to latch them. -/
theorem refillTurn_withoutPending (hstart : s.refillStartEnabled = false) :
    refillTurn (withoutPending s) = outcomeWithoutPending (refillTurn s) := by
  have hstart' : (withoutPending s).refillStartEnabled = false := hstart
  simp only [refillTurn, hstart, hstart', Bool.false_eq_true, if_false, refillSample_withoutPending,
    refillDone_withoutPending, outcomeWithoutPending_ite]
  rfl

theorem acquire_withoutPending : (withoutPending s).acquire = withoutPending s.acquire := by
  have hpq : (withoutPending s).pq = s.pq := rfl
  simp only [State.acquire, withoutPending_ite, hpq]
  cases s.pq <;> rfl

theorem emit_withoutPending (v : Nat) : (withoutPending s).emit v = withoutPending (s.emit v) := by
  simp only [State.emit, withoutPending_ite]
  rfl

theorem tickCase_withoutPending : (withoutPending s).tickCase = outcomeWithoutPending s.tickCase := by
  have hpst : (withoutPending s).pst = s.pst := rfl
  have hread : (withoutPending s).obufRead (withoutPending s).playBuf (withoutPending s).rdIdx =
    s.obufRead s.playBuf s.rdIdx := rfl
  unfold State.tickCase
  rw [hpst, hread]
  cases s.pst with
  | off => rfl
  | prime =>
    simp only [outcomeWithoutPending_ite]
    rfl
  | wait =>
    simp only [outcomeWithoutPending_ite]
    rfl
  | play =>
    cases s.obufRead s.playBuf s.rdIdx with
    | none => rfl
    | some v => exact congrArg Host.Outcome.next (emit_withoutPending s v)

theorem periodBoundary_withoutPending :
    periodBoundary (withoutPending s) = outcomeWithoutPending (periodBoundary s) := by
  unfold periodBoundary sampleTick
  rw [acquire_withoutPending, tickCase_withoutPending]
  cases s.acquire.tickCase <;> rfl

theorem pwmCycle_withoutPending : pwmCycle (withoutPending s) = outcomeWithoutPending (pwmCycle s) := by
  simp only [pwmCycle, outcomeWithoutPending_ite, periodBoundary_withoutPending]
  rfl

/-- An engine that does not look at the pending registers does not in its turn, taken or passed (rule R270). -/
theorem engineTurn_withoutPending {f : State → Host.Outcome State Fault Refusal}
    (hf : f (withoutPending s) = outcomeWithoutPending (f s)) :
    outcomeWithoutPending (if (withoutPending s).rst then .next (withoutPending s) else f (withoutPending s)) =
      outcomeWithoutPending (if s.rst then .next s else f s) := by
  simp only [hf, outcomeWithoutPending_ite, outcomeWithoutPending_next, outcomeWithoutPending_idem,
    withoutPending_withoutPending]
  rfl

/-- One agent's turn, from what its engine does. -/
theorem takeTurn_withoutPending {u : Turn} (hrdstat : isCommand .rdstat u = false)
    (hstart : u = .refill → s.refillStartEnabled = false) :
    outcomeWithoutPending (takeTurn u (withoutPending s)) = outcomeWithoutPending (takeTurn u s) := by
  cases u with
  | command w =>
    have hi : decode w ≠ .rdstat := by simpa [isCommand] using hrdstat
    simp only [takeTurn, commandTurn, outcomeWithoutPending_ite, outcomeWithoutPending_next, exec_withoutPending s hi,
      withoutPending_withoutPending]
    rfl
  | refill => exact engineTurn_withoutPending s (refillTurn_withoutPending s (hstart rfl))
  | sampleTick => exact engineTurn_withoutPending s (periodBoundary_withoutPending s)
  | pwmCycle => exact engineTurn_withoutPending s (pwmCycle_withoutPending s)
  | rstEdge level =>
    cases level with
    | true => rfl
    | false => exact outcomeWithoutPending_idem (.next { s with rst := false })

end PendingUnread

/-- States that differ only in the pending registers take a turn that does not look at them alike. -/
theorem takeTurn_samePending {s₁ s₂ t₁ : State} {u : Turn} (hsame : samePending s₁ s₂)
    (hrdstat : isCommand .rdstat u = false) (hstart : u = .refill → s₁.refillStartEnabled = false)
    (ht : takeTurn u s₁ = .next t₁) : ∃ t₂, takeTurn u s₂ = .next t₂ ∧ samePending t₁ t₂ := by
  have henabled : s₁.refillStartEnabled = s₂.refillStartEnabled :=
    show (withoutPending s₁).refillStartEnabled = (withoutPending s₂).refillStartEnabled from
      congrArg State.refillStartEnabled hsame
  have hboth : outcomeWithoutPending (takeTurn u s₁) = outcomeWithoutPending (takeTurn u s₂) := by
    rw [← takeTurn_withoutPending s₁ hrdstat hstart, hsame,
      takeTurn_withoutPending s₂ hrdstat fun hu => henabled ▸ hstart hu]
  rw [ht] at hboth
  cases h₂ : takeTurn u s₂ with
  | next t₂ =>
    rw [h₂] at hboth
    exact ⟨t₂, rfl, Host.Outcome.next.inj hboth⟩
  | fault r => rw [h₂] at hboth; cases hboth
  | refused r => rw [h₂] at hboth; cases hboth

/-- Bits 5:4 of the middle byte show `FX`; no other bit of it is of a pending register (rule R45). -/
theorem statusMid_withoutPending (s : State) {j : Nat} (hj : j < 4 ∨ 6 ≤ j) :
    (withoutPending s).statusMid.getLsbD j = s.statusMid.getLsbD j := by
  simp only [State.statusMid, BitVec.getLsbD_append]
  rcases hj with hbelow | habove
  · interval_cases j <;> rfl
  · have hfx : ¬ j - 1 - 1 - 1 - 1 < 2 := by omega
    simp only [if_neg hfx]
    rfl

/-- Bits 13:12 of the status word show `FX`; every other bit is of state that no pending write changes (rule R45). -/
theorem status_withoutPending (s : State) :
    (withoutPending s).status &&& 0xFFFFCFFF#32 = s.status &&& 0xFFFFCFFF#32 := by
  have hmask : ∀ k < 32, (0xFFFFCFFF#32).getLsbD k = true → k - 8 < 4 ∨ 6 ≤ k - 8 := by decide
  have hlow : (withoutPending s).statusLow = s.statusLow := rfl
  have hhigh : (withoutPending s).statusHigh = s.statusHigh := rfl
  apply BitVec.eq_of_getLsbD_eq
  intro k hk
  rw [BitVec.getLsbD_and, BitVec.getLsbD_and]
  cases hbit : (0xFFFFCFFF#32).getLsbD k with
  | false => simp
  | true =>
    simp only [State.status, BitVec.getLsbD_append, hlow, hhigh, statusMid_withoutPending s (hmask k hk hbit)]

/-- The state after RDSTAT is presented: it answers where the port is ready (rules R83, R226). -/
def afterRdstat (s : State) : State :=
  if s.cmdReady then { s with out := { s.out with rsp := some s.status } } else s

theorem takeTurn_rdstat {u : Turn} (hu : isCommand .rdstat u = true) (s : State) :
    takeTurn u s = .next (afterRdstat s) := by
  cases u with
  | command w =>
    have hw : decode w = .rdstat := by simpa [isCommand] using hu
    simp only [takeTurn, commandTurn, hw, afterRdstat]
    split <;> rfl
  | refill | sampleTick | pwmCycle | rstEdge level => cases hu

theorem samePending_withOut {s₁ s₂ : State} (hsame : samePending s₁ s₂) (p : Pulses) :
    samePending { s₁ with out := p } { s₂ with out := p } := by
  have heq := congrArg (fun s : State => { s with out := p }) hsame
  exact heq

/-- RDSTAT leaves states that differ only in the pending registers, and its words differ in bits 13:12 at most. -/
theorem afterRdstat_samePending {s₁ s₂ : State} (hsame : samePending s₁ s₂) (hout : s₁.out.rsp = s₂.out.rsp) :
    samePending { afterRdstat s₁ with out := (afterRdstat s₂).out } (afterRdstat s₂) ∧
    (afterRdstat s₁).rspValid = (afterRdstat s₂).rspValid ∧
    (afterRdstat s₁).rspWord &&& 0xFFFFCFFF#32 = (afterRdstat s₂).rspWord &&& 0xFFFFCFFF#32 := by
  have hready : s₁.cmdReady = s₂.cmdReady :=
    show (withoutPending s₁).cmdReady = (withoutPending s₂).cmdReady from congrArg State.cmdReady hsame
  have hctr : s₁.freeCtr = s₂.freeCtr :=
    show (withoutPending s₁).freeCtr = (withoutPending s₂).freeCtr from congrArg State.freeCtr hsame
  have hstatus : s₁.status &&& 0xFFFFCFFF#32 = s₂.status &&& 0xFFFFCFFF#32 := by
    rw [← status_withoutPending s₁, hsame, status_withoutPending s₂]
  unfold afterRdstat
  rw [hready]
  cases s₂.cmdReady with
  | true => exact ⟨samePending_withOut hsame { s₂.out with rsp := some s₂.status }, rfl, hstatus⟩
  | false =>
    refine ⟨samePending_withOut hsame s₂.out, congrArg Option.isSome hout, ?_⟩
    simp only [State.rspWord, Bool.false_eq_true, if_false, hout, hctr]

/-- Settles O57: the pending registers can be cleared before any turn but a RefillStart and RDSTAT. -/
theorem pendingWritesWaitForARefillStart : Obligations.PendingWritesWaitForARefillStart := by
  unfold Obligations.PendingWritesWaitForARefillStart
  constructor
  · intro s₁ s₂ t₁ u hsame hrdstat hstart ht
    have hbegun : samePending (present u s₁).beginStep (present u s₂).beginStep :=
      congrArg (fun s => (present u s).beginStep) hsame
    obtain ⟨t₂, ht₂, ht'⟩ := takeTurn_samePending hbegun hrdstat hstart ht
    have hobs : ∀ t, observed t = observed (withoutPending t) := fun t => rfl
    exact ⟨t₂, ht₂, ht', by rw [hobs t₁, ht', ← hobs]⟩
  · intro s₁ s₂ u hsame hrdstat
    have hbegun : samePending (present u s₁).beginStep (present u s₂).beginStep :=
      congrArg (fun s => (present u s).beginStep) hsame
    exact ⟨_, _, takeTurn_rdstat hrdstat _, takeTurn_rdstat hrdstat _, afterRdstat_samePending hbegun rfl⟩

/-! ## What moves a phase (rules R23, R125, R274) -/

/-- Every voice's phase and the tremolo phase are as before. -/
def keepsPhases (s t : State) : Prop := t.voices.map Voice.phase = s.voices.map Voice.phase ∧ t.tph = s.tph

section Phases

variable {s t : State}

theorem keepsPhases_setVfreq (ch : Nat) (f : FreqWord) : keepsPhases s (s.setVfreq ch f) :=
  ⟨map_voices_setVfreq Voice.phase (fun _ _ => rfl) s ch f, rfl⟩

/-- No command moves a phase; VFREQ, the only one that writes a voice, writes its pending word. -/
theorem keepsPhases_exec {i : Instr} (ht : exec i s = .next t) : keepsPhases s t := by
  cases i with
  | vfreq ch freq =>
    simp only [exec, execVfreq] at ht
    split at ht
    · cases ht; exact ⟨rfl, rfl⟩
    split at ht <;> cases ht <;> exact keepsPhases_setVfreq _ _
  | start | stop | poll | mode =>
    simp only [exec, execStart, execStop, execPoll, execMode] at ht
    split_ifs at ht <;> cases ht <;> exact ⟨rfl, rfl⟩
  | nop | fxset | rdstat | clrerr | reserved9 | reservedA | reservedB | reservedC | reservedD | reservedE
  | reservedF => cases ht; exact ⟨rfl, rfl⟩

/-- The playback engine writes no voice. -/
theorem keepsPhases_periodBoundary (ht : periodBoundary s = .next t) : keepsPhases s t := by
  obtain ⟨u, hu, rfl⟩ := periodBoundary_next ht
  obtain ⟨v, hv, rfl⟩ := sampleTick_next hu
  have hacquire : s.acquire.voices = s.voices ∧ s.acquire.tph = s.tph := ⟨acquire_voices s, acquire_tph s⟩
  have htick : v.voices = s.acquire.voices ∧ v.tph = s.acquire.tph := by
    rcases tickCase_next hv with ⟨-, x, -, rfl⟩ | ⟨-, -, rfl⟩ | ⟨-, -, rfl⟩ | ⟨-, -, rfl⟩ | ⟨-, -, -, rfl⟩ |
      ⟨-, -, -, rfl⟩ | ⟨-, rfl⟩
    · exact ⟨emit_voices _ _, emit_tph _ _⟩
    all_goals exact ⟨rfl, rfl⟩
  exact ⟨congrArg (List.map Voice.phase) (htick.1.trans hacquire.1), htick.2.trans hacquire.2⟩

theorem keepsPhases_pwmCycle (ht : pwmCycle s = .next t) : keepsPhases s t := by
  rcases pwmCycle_next ht with ⟨-, rfl⟩ | ⟨-, hb⟩
  · exact ⟨rfl, rfl⟩
  · exact keepsPhases_periodBoundary hb

/-- RefillStart latches the steps and leaves the phases (rule R122). -/
theorem keepsPhases_refillStart (k : BufId) (rest : List BufId) : keepsPhases s (s.refillStart k rest) := by
  constructor
  · simp only [State.refillStart, cutOffOrFill_voices, countSilence_voices, latchInputs_voices, List.map_map]
    rfl
  · simp only [State.refillStart, cutOffOrFill_tph, countSilence_tph, latchInputs_tph]

/-- Of the refill engine's steps only RefillSample moves a phase. -/
theorem refillTurn_phases (ht : refillTurn s = .next t) :
    keepsPhases s t ∨ s.refillSampleEnabled = true ∧ ∃ d, t = s.refillWrite d := by
  rcases refillTurn_next ht with ⟨-, k, rest, -, rfl⟩ | ⟨-, hen, hsample⟩ | ⟨-, -, -, rfl⟩ | ⟨-, -, -, rfl⟩
  · exact .inl (keepsPhases_refillStart k rest)
  · obtain ⟨d, -, -, rfl⟩ := refillSample_next hsample
    exact .inr ⟨hen, d, rfl⟩
  · exact .inl ⟨congrArg (List.map Voice.phase) (refillDone_voices s), refillDone_tph s⟩
  · exact .inl ⟨rfl, rfl⟩

/-- A turn but a reset edge keeps the phases or is a RefillSample. -/
theorem takeTurn_phases {u : Turn} (ht : takeTurn u s = .next t) (hu : u ≠ .rstEdge true) :
    keepsPhases s t ∨ u = .refill ∧ s.refillSampleEnabled = true ∧ ∃ d, t = s.refillWrite d := by
  rcases takeTurn_next ht with ⟨hrst, -⟩ | ⟨-, rfl⟩ | ⟨-, -, rfl⟩ | ⟨-, w, -, hc⟩ | ⟨-, hrefill, hr⟩ | ⟨-, -, hb⟩ |
    ⟨-, -, hp⟩
  · exact absurd hrst hu
  · exact .inl ⟨rfl, rfl⟩
  · exact .inl ⟨rfl, rfl⟩
  · exact .inl (keepsPhases_exec hc)
  · exact (refillTurn_phases hr).imp_right fun h => ⟨hrefill, h⟩
  · exact .inl (keepsPhases_periodBoundary hb)
  · exact .inl (keepsPhases_pwmCycle hp)

/-- For a phase and a step in range one subtraction is the modulus (rules R123, R124). -/
theorem phaseAdv_eq_mod {c : Config} {p x : Nat} (hp : p < c.phmod) (hx : x < c.phmod) :
    phaseAdv c p x = (p + x) % c.phmod := by
  unfold phaseAdv
  split
  · rw [Nat.mod_eq_sub_mod (by omega), Nat.mod_eq_of_lt (by omega)]
  · rw [Nat.mod_eq_of_lt (by omega)]

/-- A voice whose phase the advance changes is active, and moves by its step (rule R125). -/
theorem advance_phase_ne {c : Config} {v : Voice} (hv : v.phase < c.phmod ∧ v.vstep < c.phmod)
    (hne : (v.advance c).phase ≠ v.phase) :
    v.vact = true ∧ (v.advance c).phase = (v.phase + v.vstep) % c.phmod := by
  unfold Voice.advance at hne ⊢
  split
  next hact => exact ⟨hact, phaseAdv_eq_mod hv.1 hv.2⟩
  next hact => simp [hact] at hne

end Phases

/-- Settles O55: a RefillSample is the advance of every voice, and no other turn moves a phase. -/
theorem onlyARefillMovesThePhases : Obligations.OnlyARefillMovesThePhases := by
  unfold Obligations.OnlyARefillMovesThePhases
  intro s t u hinv ht hu
  rcases takeTurn_phases ht hu with ⟨hphases, htph⟩ | ⟨hrefill, hen, d, rfl⟩
  · refine ⟨fun ch v w hv hw hne => absurd ?_ hne, fun hne => absurd htph hne⟩
    have hch : (t.voices.map Voice.phase)[ch]? = (s.voices.map Voice.phase)[ch]? := congrArg (·[ch]?) hphases
    simpa [hv, hw] using hch
  · refine ⟨fun ch v w hv hw hne => ?_, fun _ => ⟨hrefill, hen⟩⟩
    have hmap : (s.voices.map (Voice.advance s.cfg))[ch]? = some w := hw
    obtain rfl : v.advance s.cfg = w := by simpa [hv] using hmap
    obtain ⟨hact, hphase⟩ := advance_phase_ne (hinv.voiceRange v (List.mem_of_getElem? hv)) hne
    exact ⟨hrefill, hen, hact, hphase⟩

end Sys2Proof.Safety

/-! PROOF. The statements about the buffer memory: that no step faults, that words are written only while filling
and read only while playing, and that the samples not yet heard form a queue. -/

namespace Sys2Proof.Safety

open Sys2Proof Sys2Proof.Machine

/-! ## MixSample is defined wherever the invariants hold (rules R63, R139, R141, R144, R145) -/

section Mixing

variable {c : Config}

/-- What a legal configuration guarantees of its table and its effect functions (rules R8, R105). -/
theorem tables_of_instanceOk (hc : c.instanceOk = true) :
    c.effectsOk = true ∧ c.rom.length = c.l ∧ ∀ x ∈ c.rom, x ≤ c.peak := by
  simp only [Config.instanceOk, Bool.and_eq_true] at hc
  obtain ⟨⟨-, heffects⟩, hrom⟩ := hc
  simp only [Config.romOk, Bool.and_eq_true, decide_eq_true_eq, List.all_eq_true] at hrom
  obtain ⟨⟨⟨⟨⟨hlen, hpeak⟩, -⟩, -⟩, -⟩, -⟩ := hrom
  exact ⟨heffects, hlen, hpeak⟩

/-- A phase in range looks up a word of the table (rules R63, R106). -/
theorem lookup_le_peak (hc : c.instanceOk = true) {p : Nat} (hp : p < c.phmod) :
    ∃ x, lookup c p = some x ∧ x ≤ c.peak := by
  obtain ⟨-, hlen, hpeak⟩ := tables_of_instanceOk hc
  have hidx : p / 2 ^ c.fw < c.rom.length :=
    hlen ▸ (Nat.div_lt_iff_lt_mul (Nat.two_pow_pos _)).mpr hp
  exact ⟨_, List.getElem?_eq_getElem hidx, hpeak _ (List.getElem_mem hidx)⟩

/-- The sum over voices in range is defined, and at most `PEAK` for each active voice (rule R139). -/
theorem mixSum_le_peak_mul (hc : c.instanceOk = true) (vs : List Voice) (hvs : ∀ v ∈ vs, v.phase < c.phmod) :
    ∃ acc, mixSum c vs = some acc ∧ acc ≤ vs.countP Voice.vact * c.peak := by
  induction vs with
  | nil => exact ⟨0, rfl, Nat.zero_le _⟩
  | cons v vs ih =>
    obtain ⟨hv, hrest⟩ := List.forall_mem_cons.mp hvs
    obtain ⟨acc, hacc, hle⟩ := ih hrest
    cases hact : v.vact with
    | false => exact ⟨acc, by simp [mixSum, hact, hacc], by simpa [hact] using hle⟩
    | true =>
      obtain ⟨x, hx, hxle⟩ := lookup_le_peak hc hv
      refine ⟨x + acc, by simp [mixSum, hact, hx, hacc], ?_⟩
      rw [List.countP_cons_of_pos hact, Nat.succ_mul]
      omega

/-- The quotient of a sum of `n` table samples is again at most `PEAK` (rule R141). -/
theorem normalise_le_peak {acc n : Nat} (hn : n ≠ 0) (hacc : acc ≤ n * c.peak) : normalise acc n ≤ c.peak := by
  refine Nat.lt_add_one_iff.mp ((Nat.div_lt_iff_lt_mul (by omega)).mpr ?_)
  have hmul : (c.peak + 1) * (2 * n) = 2 * (n * c.peak) + 2 * n := by ring
  omega

/-- `Reshape` is total on `0..PEAK` (rule R144). -/
theorem reshape_total (hc : c.instanceOk = true) {m : Nat} (hm : m ≤ c.peak) : ∃ r, reshape c m = some r := by
  obtain ⟨heffects, -, -⟩ := tables_of_instanceOk hc
  unfold reshape
  cases hshape : c.reshape with
  | isqrtPeak => exact ⟨_, rfl⟩
  | table shape =>
    have hlen : shape.length = c.peak + 1 := by
      simp only [Config.effectsOk, hshape, Bool.and_eq_true, decide_eq_true_eq] at heffects
      exact heffects.2
    exact ⟨_, List.getElem?_eq_getElem (by omega)⟩

/-- The effect stage is defined on every normalised sample, for every setting of the flags (rule R143). -/
theorem effectStage_total (hc : c.instanceOk = true) (fxl : BitVec 2) {tph m : Nat} (ht : tph < c.tmod)
    (hm : m ≤ c.peak) : ∃ d, effectStage c fxl tph m = some d := by
  obtain ⟨heffects, hlen, -⟩ := tables_of_instanceOk hc
  obtain ⟨r, hr⟩ : ∃ r, applyReshape c fxl m = some r := by
    unfold applyReshape
    split
    · exact reshape_total hc hm
    · exact ⟨m, rfl⟩
  obtain ⟨y, hy⟩ : ∃ y, applyTremolo c fxl tph r = some y := by
    unfold applyTremolo
    split
    · obtain ⟨g, hg, -⟩ := tremGain_of_effectsOk heffects hlen ht
      exact ⟨_, by rw [hg]; rfl⟩
    · exact ⟨r, rfl⟩
  exact ⟨min y c.dutyMax, by simp [effectStage, hr, hy]⟩

theorem Inv.mixSample_ok {s : State} (h : Inv s) : ∃ d, s.mixSample = .ok d := by
  unfold State.mixSample
  split
  · exact ⟨_, rfl⟩
  next hact =>
    obtain ⟨acc, hacc, hle⟩ := mixSum_le_peak_mul h.isInstance s.voices fun v hv => (h.voiceRange v hv).1
    have hm : normalise acc s.nact ≤ s.cfg.peak := normalise_le_peak hact (h.activeCount ▸ hle)
    obtain ⟨d, hd⟩ := effectStage_total h.isInstance s.fxl h.tphRange hm
    exact ⟨d, by simp only [hacc, hd]⟩

end Mixing

/-! ## The accesses to the buffers stay inside them (rules R60, R63) -/

section Access

variable {s : State} {b : BufId}

/-- A buffer in one of the four places is one the block has (rule R46 I1). -/
theorem Inv.hasBuf_of_placed (h : Inv s) (hb : 0 < places s b) : s.cfg.hasBuf b = true := by
  have hle := h.placedOnce b
  split at hle
  · assumption
  · omega

theorem Inv.obufHas_fillBuf (h : Inv s) (hbusy : s.fillBusy = true) {i : Nat} (hi : i < s.cfg.b) :
    s.obufHas s.fillBuf i = true := by
  have hhas : s.cfg.hasBuf s.fillBuf = true := h.hasBuf_of_placed (by simp [places_eq, hbusy])
  simp [State.obufHas, hhas, hi]

/-- The word the playback engine reads exists (rule R203). -/
theorem Inv.obufRead_playBuf (h : Inv s) (hp : s.pst = .play) :
    s.obufRead s.playBuf s.rdIdx = some (s.wordAt s.playBuf s.rdIdx) := by
  have hhas : s.cfg.hasBuf s.playBuf = true := h.hasBuf_of_placed (by simp [places_eq, hp])
  simp [State.obufRead, State.obufHas, hhas, h.rdRange]

/-- No buffer is filled and played at once (rules R46 I1, R64). -/
theorem Inv.fillBuf_ne_playBuf (h : Inv s) (hbusy : s.fillBusy = true) (hp : s.pst = .play) :
    s.fillBuf ≠ s.playBuf := by
  intro heq
  obtain ⟨-, hfilled, -⟩ := h.played (b := s.playBuf) (by simp [beingPlayed, hp])
  simp [beingFilled, hbusy, heq] at hfilled

/-- A buffer waiting in `PQ` is not the one being filled (rule R46 I1). -/
theorem Inv.fillBuf_ne_queued (h : Inv s) (hbusy : s.fillBusy = true) (hb : b ∈ s.pq) : s.fillBuf ≠ b := by
  obtain ⟨-, hfilled, -⟩ := h.queued hb
  simpa [beingFilled, hbusy] using hfilled

theorem refillSampleEnabled_iff : s.refillSampleEnabled = true ↔ s.fillBusy = true ∧ s.wrIdx < s.cfg.b := by
  simp [State.refillSampleEnabled]

theorem refillDoneEnabled_iff : s.refillDoneEnabled = true ↔ s.fillBusy = true ∧ s.wrIdx = s.cfg.b := by
  simp [State.refillDoneEnabled]

end Access

/-! ## Every agent's turn completes (rule R247) -/

section Complete

variable {s : State}

/-- Every command completes, in every state (rule R83). -/
theorem exec_completes (i : Instr) (s : State) : ∃ t, exec i s = .next t := by
  cases i with
  | vfreq | start | stop | poll | mode =>
    simp only [exec, execVfreq, execStart, execStop, execPoll, execMode]
    split_ifs <;> exact ⟨_, rfl⟩
  | nop | fxset | rdstat | clrerr | reserved9 | reservedA | reservedB | reservedC | reservedD | reservedE
  | reservedF => exact ⟨_, rfl⟩

theorem refillSample_completes (h : Inv s) (hen : s.refillSampleEnabled = true) :
    ∃ t, s.refillSample = .next t := by
  obtain ⟨hbusy, hwr⟩ := refillSampleEnabled_iff.mp hen
  obtain ⟨d, hd⟩ := h.mixSample_ok
  exact ⟨s.refillWrite d, by simp only [State.refillSample, hd, h.obufHas_fillBuf hbusy hwr, if_true]⟩

theorem refillTurn_completes (h : Inv s) : ∃ t, refillTurn s = .next t := by
  unfold refillTurn
  split
  · cases s.rq <;> exact ⟨_, rfl⟩
  split
  next hen => exact refillSample_completes h hen
  split <;> exact ⟨_, rfl⟩

/-- A tick that plays reads a word that exists; every other case of sub-step 2 reads none (rule R201). -/
theorem tickCase_completes (h : Inv s) : ∃ t, s.tickCase = .next t := by
  cases hp : s.pst with
  | play => exact ⟨s.emit (s.wordAt s.playBuf s.rdIdx), by simp only [State.tickCase, hp, h.obufRead_playBuf hp]⟩
  | off => exact ⟨_, by simp only [State.tickCase, hp]; rfl⟩
  | prime | wait =>
    simp only [State.tickCase, hp]
    split_ifs <;> exact ⟨_, rfl⟩

theorem periodBoundary_completes (h : Inv s) : ∃ t, periodBoundary s = .next t := by
  obtain ⟨t, ht⟩ := tickCase_completes h.acquire
  have hsample : sampleTick s = .next t.strobe := by simp only [sampleTick, ht]
  exact ⟨{ t.strobe with cnt := 0, cmp := t.strobe.duty }, by simp only [periodBoundary, hsample]⟩

theorem pwmCycle_completes (h : Inv s) : ∃ t, pwmCycle s = .next t := by
  unfold pwmCycle
  split
  · exact ⟨_, rfl⟩
  · exact periodBoundary_completes h

theorem takeTurn_completes (h : Inv s) (u : Turn) : ∃ t, takeTurn u s = .next t := by
  have hgated : ∀ o : Host.Outcome State Fault Refusal, (∃ t, o = .next t) →
      ∃ t, (if s.rst then .next s else o) = .next t := fun o ho => by
    split
    · exact ⟨s, rfl⟩
    · exact ho
  cases u with
  | rstEdge level => cases level <;> exact ⟨_, rfl⟩
  | command w =>
    simp only [takeTurn]
    split
    · exact exec_completes _ s
    · exact ⟨s, rfl⟩
  | refill => exact hgated _ (refillTurn_completes h)
  | sampleTick => exact hgated _ (periodBoundary_completes h)
  | pwmCycle => exact hgated _ (pwmCycle_completes h)

end Complete

/-- Settles O54, agent by agent: MixSample is defined and every access lies inside its memory. -/
theorem noStepFaults : Obligations.NoStepFaults := by
  unfold Obligations.NoStepFaults
  intro s h
  exact takeTurn_completes h.beginStep s.nextTurn

/-! ## What each agent does to the words and to the strobe (rules R62, R64, R201) -/

section Words

variable {s t : State} {u : Turn}

/-- A turn but a reset edge passes, is one command, is the refill engine's or is the sample tick. -/
theorem takeTurn_agent (ht : takeTurn u s = .next t) (hu : u ≠ .rstEdge true) :
    ((u = .refill → s.rst = true) ∧ ∃ level n, t = { s with rst := level, cnt := n }) ∨
    (∃ w, u = .command w ∧ exec (decode w) s = .next t) ∨
    (u = .refill ∧ refillTurn s = .next t) ∨
    (u ≠ .refill ∧ periodBoundary s = .next t) := by
  rcases takeTurn_next ht with ⟨hreset, -⟩ | ⟨rfl, rfl⟩ | ⟨hrst, -, rfl⟩ | ⟨-, hc⟩ | ⟨-, hr⟩ | ⟨-, rfl, hb⟩ |
    ⟨-, rfl, hp⟩
  · exact absurd hreset hu
  · exact .inl ⟨nofun, false, s.cnt, rfl⟩
  · exact .inl ⟨fun _ => hrst, t.rst, t.cnt, rfl⟩
  · exact .inr (.inl hc)
  · exact .inr (.inr (.inl hr))
  · exact .inr (.inr (.inr ⟨nofun, hb⟩))
  · rcases pwmCycle_next hp with ⟨-, rfl⟩ | ⟨-, hb⟩
    · exact .inl ⟨nofun, s.rst, s.cnt + 1, rfl⟩
    · exact .inr (.inr (.inr ⟨nofun, hb⟩))

/-- The words read the same where the buffers do. -/
theorem wordAt_eq_of_obuf (ho : t.obuf = s.obuf) (hc : t.cfg = s.cfg) (he : t.obufEpoch = s.obufEpoch) :
    t.wordAt = s.wordAt := by
  funext b i
  exact wordAt_congr s t b i ho hc he

/-- A command writes no word, leaves `DUTY` and takes no tick (rules R62, R83). -/
theorem exec_keeps_sound {i : Instr} (ht : exec i s = .next t) :
    t.wordAt = s.wordAt ∧ t.duty = s.duty ∧ t.dutyStrobe = s.dutyStrobe := by
  cases i with
  | vfreq | start | stop | poll | mode =>
    simp only [exec, execVfreq, execStart, execStop, execPoll, execMode] at ht
    split_ifs at ht <;> cases ht <;> exact ⟨rfl, rfl, rfl⟩
  | nop | fxset | rdstat | clrerr | reserved9 | reservedA | reservedB | reservedC | reservedD | reservedE
  | reservedF => cases ht; exact ⟨rfl, rfl, rfl⟩

theorem refillStart_wordAt (s : State) (k : BufId) (rest : List BufId) :
    (s.refillStart k rest).wordAt = s.wordAt :=
  wordAt_eq_of_obuf (by simp [State.refillStart]) (by simp [State.refillStart]) (by simp [State.refillStart])

theorem refillDone_wordAt (s : State) : s.refillDone.wordAt = s.wordAt :=
  wordAt_eq_of_obuf (by simp) (by simp) (by simp)

/-- The refill engine leaves `DUTY` and takes no tick. -/
theorem refillTurn_keeps_duty (ht : refillTurn s = .next t) : t.duty = s.duty ∧ t.dutyStrobe = s.dutyStrobe := by
  unfold State.dutyStrobe
  rcases refillTurn_next ht with ⟨-, k, rest, -, rfl⟩ | ⟨-, -, hsample⟩ | ⟨-, -, -, rfl⟩ | ⟨-, -, -, rfl⟩
  · simp [State.refillStart]
  · obtain ⟨d, -, -, rfl⟩ := refillSample_next hsample
    simp
  · simp
  · simp

/-- Of the refill engine's steps only RefillSample writes a word (rule R175). -/
theorem refillTurn_wordAt (ht : refillTurn s = .next t) :
    t.wordAt = s.wordAt ∨ s.refillSampleEnabled = true ∧ ∃ d, t = s.refillWrite d := by
  rcases refillTurn_next ht with ⟨-, k, rest, -, rfl⟩ | ⟨-, hen, hsample⟩ | ⟨-, -, -, rfl⟩ | ⟨-, -, -, rfl⟩
  · exact .inl (refillStart_wordAt s k rest)
  · obtain ⟨d, -, -, rfl⟩ := refillSample_next hsample
    exact .inr ⟨hen, d, rfl⟩
  · exact .inl (refillDone_wordAt s)
  · exact .inl rfl

theorem acquire_wordAt (s : State) : s.acquire.wordAt = s.wordAt :=
  wordAt_eq_of_obuf (by simp) (by simp) (by simp)

theorem emit_wordAt (s : State) (v : Nat) : (s.emit v).wordAt = s.wordAt :=
  wordAt_eq_of_obuf (by simp) (by simp) (by simp)

/-- SampleTick's last sub-step and the reload of the pulse-width stage leave what sub-step 2 gave (rules R201, R214). -/
theorem periodBoundary_tickCase (ht : periodBoundary s = .next t) :
    ∃ y, s.acquire.tickCase = .next y ∧ t.wordAt = y.wordAt ∧ unheard t = unheard y ∧ t.duty = y.duty ∧
      t.dutyStrobe = true := by
  obtain ⟨x, hx, rfl⟩ := periodBoundary_next ht
  obtain ⟨y, hy, rfl⟩ := sampleTick_next hx
  exact ⟨y, hy, rfl, rfl, rfl, rfl⟩

/-- The playback engine writes no word. -/
theorem periodBoundary_wordAt (ht : periodBoundary s = .next t) : t.wordAt = s.wordAt := by
  obtain ⟨y, hy, hwords, -⟩ := periodBoundary_tickCase ht
  have hcase : y.wordAt = s.acquire.wordAt := by
    rcases tickCase_next hy with ⟨-, v, -, rfl⟩ | ⟨-, -, rfl⟩ | ⟨-, -, rfl⟩ | ⟨-, -, rfl⟩ | ⟨-, -, -, rfl⟩ |
      ⟨-, -, -, rfl⟩ | ⟨-, rfl⟩
    · exact emit_wordAt _ v
    all_goals rfl
  exact hwords.trans (hcase.trans (acquire_wordAt s))

/-- The word RefillSample writes. -/
theorem refillWrite_wordAt_same (s : State) (d : Nat) : (s.refillWrite d).wordAt s.fillBuf s.wrIdx = d :=
  wordAt_setWord_same s s.fillBuf s.wrIdx d

/-- RefillSample writes no other word. -/
theorem refillWrite_wordAt_other {b : BufId} {i : Nat} (d : Nat) (hne : s.fillBuf ≠ b ∨ i ≠ s.wrIdx) :
    (s.refillWrite d).wordAt b i = s.wordAt b i :=
  wordAt_setWord_other s s.fillBuf b s.wrIdx i d hne

/-- A turn but a reset edge writes no word, or is a RefillSample. -/
theorem takeTurn_wordAt (ht : takeTurn u s = .next t) (hu : u ≠ .rstEdge true) :
    t.wordAt = s.wordAt ∨ u = .refill ∧ s.refillSampleEnabled = true ∧ ∃ d, t = s.refillWrite d := by
  rcases takeTurn_agent ht hu with ⟨-, level, n, rfl⟩ | ⟨w, -, hc⟩ | ⟨hrefill, hr⟩ | ⟨-, hb⟩
  · exact .inl rfl
  · exact .inl (exec_keeps_sound hc).1
  · exact (refillTurn_wordAt hr).imp_right fun hsample => ⟨hrefill, hsample⟩
  · exact .inl (periodBoundary_wordAt hb)

/-- Where the last pulses are over, a turn that strobes `DUTY` is the sample tick (rule R201). -/
theorem periodBoundary_of_strobe (ht : takeTurn u s = .next t) (hover : s.dutyStrobe = false)
    (hstrobe : t.dutyStrobe = true) : periodBoundary s = .next t := by
  have hu : u ≠ .rstEdge true := by
    rintro rfl
    cases ht
    exact absurd hstrobe (ne_true_of_eq_false hover)
  have hquiet : t.dutyStrobe ≠ s.dutyStrobe := by simp [hover, hstrobe]
  rcases takeTurn_agent ht hu with ⟨-, level, n, rfl⟩ | ⟨w, -, hc⟩ | ⟨-, hr⟩ | ⟨-, hb⟩
  · exact absurd rfl hquiet
  · exact absurd (exec_keeps_sound hc).2.2 hquiet
  · exact absurd (refillTurn_keeps_duty hr).2 hquiet
  · exact hb

/-- A tick that plays emits the word under the read index (rule R203). -/
theorem Inv.tickCase_play (h : Inv s) (hp : s.pst = .play) (ht : s.tickCase = .next t) :
    t = s.emit (s.wordAt s.playBuf s.rdIdx) := by
  simp only [State.tickCase, hp, h.obufRead_playBuf hp] at ht
  cases ht
  rfl

@[simp] theorem emit_duty (s : State) (v : Nat) : (s.emit v).duty = v := by
  rcases emit_cases s v with ⟨-, heq⟩ | ⟨-, heq⟩ <;> rw [heq]
  rfl

/-- A tick that plays makes that word `DUTY`. -/
theorem Inv.periodBoundary_play (h : Inv s) (hp : s.acquire.pst = .play)
    (ht : Machine.periodBoundary s = .next t) :
    t.duty = s.wordAt s.acquire.playBuf s.acquire.rdIdx := by
  obtain ⟨y, hy, -, -, hduty, -⟩ := periodBoundary_tickCase ht
  rw [hduty, h.acquire.tickCase_play hp hy, emit_duty, acquire_wordAt]

end Words

/-! ## The state a presented turn is taken in -/

section Presented

variable {s : State}

/-- It keeps the invariants. -/
theorem Inv.presented (h : Inv s) (u : Turn) : Inv (present u s).beginStep := { h with }

/-- Sub-step 1 of SampleTick looks at nothing the start of a step touches. -/
theorem acquire_presented (s : State) (u : Turn) :
    (present u s).beginStep.acquire = (present u s.acquire).beginStep := by
  have hpst : (present u s).beginStep.pst = s.pst := rfl
  have hpq : (present u s).beginStep.pq = s.pq := rfl
  simp only [State.acquire, hpst, hpq]
  split
  · cases s.pq <;> rfl
  · rfl

end Presented


/-- Settles O46: RefillSample is the only writer, and its buffer is `FILLING`; a tick reads the buffer that
sub-step 1 left `PLAYING`. -/
theorem noTornBuffer : Obligations.NoTornBuffer := by
  unfold Obligations.NoTornBuffer
  intro s t u h ht
  refine ⟨fun b i hu hne => ?_, fun hstrobe hp => ?_, h.fillBuf_ne_playBuf⟩
  · rcases takeTurn_wordAt ht hu with hsame | ⟨hrefill, hen, d, rfl⟩
    · exact absurd (congrFun (congrFun hsame b) i) hne
    · have hwritten : b = s.fillBuf ∧ i = s.wrIdx := by
        by_contra hother
        exact hne (refillWrite_wordAt_other (s := (present u s).beginStep) d (by tauto))
      obtain ⟨rfl, rfl⟩ := hwritten
      obtain ⟨hbusy, -⟩ := refillSampleEnabled_iff.mp hen
      exact ⟨h.filling (by simp [beingFilled, show s.fillBusy = true from hbusy]), hrefill, rfl, rfl⟩
  · obtain ⟨-, -, hplaying⟩ := h.acquire.played (b := s.acquire.playBuf) (by simp [beingPlayed, hp])
    have hplays : (present u s).beginStep.acquire.pst = .play := by rw [acquire_presented]; exact hp
    have hduty := (h.presented u).periodBoundary_play hplays (periodBoundary_of_strobe ht rfl hstrobe)
    rw [acquire_presented] at hduty
    exact ⟨hplaying, hduty⟩

/-! ## The queue of unheard samples (rules R72, R202, R208, R210)

Sub-step 1 of SampleTick and RefillDone move a whole window from one of the three parts of `unheard` to the next; only
RefillSample lengthens it and only an emit shortens it. -/

section Queue

variable {s t : State} {u : Turn}

/-- The first word of what is left of a window. -/
theorem windowFrom_eq_cons (b : BufId) {i : Nat} (hi : i < s.cfg.b) :
    windowFrom s b i = s.wordAt b i :: windowFrom s b (i + 1) := by
  have hlen : s.cfg.b - i = s.cfg.b - (i + 1) + 1 := by omega
  rw [windowFrom, hlen, List.range'_succ, List.map_cons]
  rfl

theorem windowFrom_eq_nil (s : State) (b : BufId) {i : Nat} (hi : s.cfg.b ≤ i) : windowFrom s b i = [] := by
  rw [windowFrom, Nat.sub_eq_zero_of_le hi]
  rfl

/-- A window reads the same where its words do. -/
theorem windowFrom_congr {b : BufId} (i : Nat) (hc : t.cfg = s.cfg) (hw : ∀ j, t.wordAt b j = s.wordAt b j) :
    windowFrom t b i = windowFrom s b i := by
  rw [windowFrom, windowFrom, hc]
  exact List.map_congr_left fun j _ => hw j

/-- With nothing playing, nothing ready and nothing filling, nothing is unheard. -/
theorem unheard_eq_nil (hp : s.pst ≠ .play) (hpq : s.pq = []) (hfill : s.fillBusy = true → s.sst ≠ .run) :
    unheard s = [] := by
  have hfilling : ¬ (s.fillBusy = true ∧ s.sst = .run) := fun ⟨hbusy, hrun⟩ => hfill hbusy hrun
  simp [unheard, playingRest, readyRest, fillingRest, hp, hpq, hfilling]

/-- Out of a run nothing is unheard (rules R165, R206). -/
theorem Inv.unheard_of_not_run (h : Inv s) (hrun : s.sst ≠ .run) : unheard s = [] := by
  have hoff : s.pst = .off := by
    by_contra hp
    exact hrun (h.playIsRun hp)
  have hpq : s.pq = [] := by
    cases hs : s.sst with
    | run => exact absurd hs hrun
    | idle =>
      obtain ⟨-, -, -, hpq, -⟩ := h.idleIsQuiet hs
      exact hpq
    | stopping =>
      obtain ⟨-, -, -, hpq, -⟩ := h.stoppingIsQuiet hs
      exact hpq
  exact unheard_eq_nil (by simp [hoff]) hpq fun _ => hrun

/-! ### Commands -/

/-- A command but STOP leaves the queue; a START that begins a run finds it empty and leaves it so (rule R162). -/
theorem Inv.unheard_exec (h : Inv s) {i : Instr} (hi : i ≠ .stop) (ht : Machine.exec i s = .next t) :
    unheard t = unheard s := by
  cases i with
  | stop => exact absurd rfl hi
  | start =>
    simp only [Machine.exec, Machine.execStart] at ht
    split_ifs at ht with herr hidle
    · cases ht; rfl
    · cases ht
      obtain ⟨-, hbusy, -⟩ := h.idleIsQuiet hidle
      rw [h.unheard_of_not_run (by simp [hidle])]
      exact unheard_eq_nil nofun rfl fun hfill => absurd hfill (by simp [hbusy])
    · cases ht; rfl
  | vfreq | poll | mode =>
    simp only [Machine.exec, execVfreq, Machine.execPoll, execMode] at ht
    split_ifs at ht <;> cases ht <;> rfl
  | nop | fxset | rdstat | clrerr | reserved9 | reservedA | reservedB | reservedC | reservedD | reservedE
  | reservedF => cases ht; rfl

/-! ### The refill engine -/

theorem fillingRest_eq_nil_of_fillBusy (hbusy : s.fillBusy = false) : fillingRest s = [] := by
  simp [fillingRest, hbusy]

theorem fillingRest_eq_nil_of_wrIdx (hwr : s.wrIdx = 0) : fillingRest s = [] := by
  simp [fillingRest, hwr]

/-- RefillStart has written no word of its window yet (rule R170). -/
theorem unheard_refillStart (hen : s.refillStartEnabled = true) (k : BufId) (rest : List BufId) :
    unheard (s.refillStart k rest) = unheard s := by
  obtain ⟨-, hbusy, -⟩ := refillStartEnabled_iff.mp hen
  have hnone : fillingRest s = [] := fillingRest_eq_nil_of_fillBusy hbusy
  rcases cutOffOrFill_cases (State.latchInputs { s with rq := rest, pollPend := false }).countSilence k with
    ⟨-, -, heq⟩ | ⟨-, heq⟩ <;> rw [State.refillStart, heq]
  · rfl
  · rw [unheard, unheard, hnone, fillingRest_eq_nil_of_wrIdx rfl]
    rfl

/-- RefillSample of a running block appends its word (rule R175). -/
theorem Inv.unheard_refillWrite (h : Inv s) (hbusy : s.fillBusy = true) (hrun : s.sst = .run) (d : Nat) :
    unheard (s.refillWrite d) = unheard s ++ [d] := by
  have hother : ∀ b i, s.fillBuf ≠ b → windowFrom (s.refillWrite d) b i = windowFrom s b i := fun b i hb =>
    windowFrom_congr i rfl fun j => refillWrite_wordAt_other d (.inl hb)
  have hplaying : playingRest (s.refillWrite d) = playingRest s := by
    unfold playingRest
    exact ite_congr rfl (fun hp => hother _ _ (h.fillBuf_ne_playBuf hbusy hp)) fun _ => rfl
  have hready : readyRest (s.refillWrite d) = readyRest s :=
    List.flatMap_congr fun b hb => hother b 0 (h.fillBuf_ne_queued hbusy hb)
  have hfilling : fillingRest (s.refillWrite d) = fillingRest s ++ [d] := by
    have hwritten : ∀ i ∈ List.range s.wrIdx, (s.refillWrite d).wordAt s.fillBuf i = s.wordAt s.fillBuf i :=
      fun i hi => refillWrite_wordAt_other d (.inr (List.mem_range.mp hi).ne)
    have hlast := refillWrite_wordAt_same s d
    simp only [fillingRest, refillWrite_fillBusy, refillWrite_sst, refillWrite_wrIdx, refillWrite_fillBuf, hbusy, hrun,
      and_self, if_true, List.range_succ, List.map_append, List.map_cons, List.map_nil, hlast,
      List.map_congr_left hwritten]
  rw [unheard, hplaying, hready, hfilling, ← List.append_assoc]
  rfl

/-- RefillDone hands over the whole window it has written (rule R178). -/
theorem unheard_handOver (hbusy : s.fillBusy = true) (hfull : s.wrIdx = s.cfg.b) (hrun : s.sst = .run) :
    unheard { s with fillBusy := false, bst := s.bst.set s.fillBuf .ready, pq := s.pq ++ [s.fillBuf] } =
      unheard s := by
  have hwindow : fillingRest s = windowFrom s s.fillBuf 0 := by
    simp [fillingRest, windowFrom, hbusy, hrun, hfull, List.range_eq_range']
  have hready : readyRest { s with
      fillBusy := false, bst := s.bst.set s.fillBuf .ready, pq := s.pq ++ [s.fillBuf] } =
      readyRest s ++ windowFrom s s.fillBuf 0 := by
    simp only [readyRest, List.flatMap_append, List.flatMap_singleton]
    rfl
  rw [unheard, unheard, hready, hwindow, fillingRest_eq_nil_of_fillBusy rfl, List.append_nil,
    List.append_assoc (playingRest s)]
  rfl

theorem Inv.unheard_refillDone (h : Inv s) (hen : s.refillDoneEnabled = true) : unheard s.refillDone = unheard s := by
  obtain ⟨hbusy, hfull⟩ := refillDoneEnabled_iff.mp hen
  rcases refillDone_cases s with ⟨hrun, heq⟩ | ⟨hrun, heq⟩
  · rw [heq]
    exact unheard_handOver hbusy hfull hrun
  · have hidle : s.refillDone.sst ≠ .run := by simp [heq]
    rw [h.unheard_of_not_run hrun, (h.refillDone hen).unheard_of_not_run hidle]

/-- The refill engine appends the sample MixSample gave, in a RefillSample of a running block, or leaves the queue. -/
theorem Inv.refillTurn_unheard (h : Inv s) (ht : Machine.refillTurn s = .next t) :
    (s.refillSampleEnabled = true ∧ ∃ d, s.mixSample = .ok d ∧ unheard t = unheard s ++ [d]) ∨
    ((s.refillSampleEnabled = true → s.sst ≠ .run) ∧ unheard t = unheard s) := by
  rcases refillTurn_next ht with ⟨hen, k, rest, -, rfl⟩ | ⟨-, hen, hsample⟩ | ⟨-, hnot, hen, rfl⟩ | ⟨-, hnot, -, rfl⟩
  · obtain ⟨-, hidle, -⟩ := refillStartEnabled_iff.mp hen
    exact .inr ⟨by simp [State.refillSampleEnabled, hidle], unheard_refillStart hen k rest⟩
  · obtain ⟨d, hmix, -, rfl⟩ := refillSample_next hsample
    obtain ⟨hbusy, -⟩ := refillSampleEnabled_iff.mp hen
    by_cases hrun : s.sst = .run
    · exact .inl ⟨hen, d, hmix, h.unheard_refillWrite hbusy hrun d⟩
    · have hstill : (s.refillWrite d).sst ≠ .run := hrun
      exact .inr ⟨fun _ => hrun,
        by rw [h.unheard_of_not_run hrun, (h.refillSample hen hsample).unheard_of_not_run hstill]⟩
  · exact .inr ⟨by simp [hnot], h.unheard_refillDone hen⟩
  · exact .inr ⟨by simp [hnot], rfl⟩

/-! ### The playback engine -/

/-- Taking a filled buffer for playing moves its window to the front of the queue, where it was (rule R202). -/
theorem unheard_acquire (s : State) : unheard s.acquire = unheard s := by
  rcases acquire_cases s with ⟨k, rest, hp, hpq, heq⟩ | ⟨-, -, heq⟩ | ⟨-, heq⟩ <;> rw [heq]
  have hplay : s.pst ≠ .play := by rcases hp with hp | hp <;> simp [hp]
  have hready : readyRest s = windowFrom s k 0 ++ rest.flatMap fun b => windowFrom s b 0 := by
    rw [readyRest, hpq, List.flatMap_cons]
  have hnone : playingRest s = [] := if_neg hplay
  rw [unheard, unheard, hready, hnone]
  rfl

/-- An emit takes the head of the queue (rules R203, R208). -/
theorem Inv.unheard_emit (h : Inv s) (hp : s.pst = .play) (v : Nat) :
    unheard s = s.wordAt s.playBuf s.rdIdx :: unheard (s.emit v) := by
  have hhead : unheard s = s.wordAt s.playBuf s.rdIdx ::
      (windowFrom s s.playBuf (s.rdIdx + 1) ++ readyRest s ++ fillingRest s) := by
    rw [unheard, playingRest, if_pos hp, windowFrom_eq_cons _ h.rdRange]
    rfl
  rw [hhead]
  rcases emit_cases s v with ⟨hlast, heq⟩ | ⟨-, heq⟩ <;> rw [heq]
  · rw [windowFrom_eq_nil s _ hlast.ge]
    rfl
  · rw [unheard, playingRest, if_pos hp]
    rfl

/-- At the end of the last window the queue is empty and stays so (rule R206). -/
theorem Inv.unheard_goIdle (h : Inv s) (hpq : s.pq = []) (hp : s.pst = .prime ∨ s.pst = .wait)
    (hl : s.lastw = true) : unheard s.goIdle = unheard s := by
  obtain ⟨-, hbusy, -⟩ := h.lastWindow hl
  have hplay : s.pst ≠ .play := by rcases hp with hp | hp <;> simp [hp]
  rw [(h.goIdle hpq hp hl).unheard_of_not_run nofun, unheard_eq_nil hplay hpq (by simp [hbusy])]

/-- Sub-step 2 of SampleTick, where it plays nothing, leaves the queue and holds `DUTY` or makes it the idle value. -/
theorem Inv.tickCase_unheard (h : Inv s) (hp : s.pst ≠ .play) (hpq : s.pst = .prime ∨ s.pst = .wait → s.pq = [])
    (ht : s.tickCase = .next t) :
    unheard t = unheard s ∧ (t.duty = s.duty ∨ t.duty = s.cfg.idleDuty) := by
  rcases tickCase_next ht with ⟨hplay, -⟩ | ⟨hprime, hl, rfl⟩ | ⟨-, -, rfl⟩ | ⟨hwait, hl, rfl⟩ | ⟨-, -, -, rfl⟩ |
    ⟨-, -, -, rfl⟩ | ⟨-, rfl⟩
  · exact absurd hplay hp
  · exact ⟨h.unheard_goIdle (hpq (.inl hprime)) (.inl hprime) hl, .inr rfl⟩
  · exact ⟨rfl, .inr rfl⟩
  · exact ⟨h.unheard_goIdle (hpq (.inr hwait)) (.inr hwait) hl, .inr rfl⟩
  · exact ⟨rfl, .inl rfl⟩
  · exact ⟨rfl, .inl rfl⟩
  · exact ⟨rfl, .inr rfl⟩

/-- After sub-step 1 the block plays exactly if it played, or a filled buffer was waiting (rule R202). -/
theorem acquire_pst_eq_play_iff : s.acquire.pst = .play ↔ s.pst = .play ∨ (s.pst ≠ .off ∧ s.pq ≠ []) := by
  rcases acquire_cases s with ⟨k, rest, hp, hpq, heq⟩ | ⟨hp, hpq, heq⟩ | ⟨hp, heq⟩ <;> rw [heq]
  · rcases hp with hp | hp <;> simp [hp, hpq]
  · simp [hpq]
  · rcases hp with hp | hp <;> simp [hp]

/-- A tick takes the head of the queue if it plays, else leaves the queue. -/
theorem Inv.periodBoundary_unheard (h : Inv s) (ht : Machine.periodBoundary s = .next t) :
    (t.dutyStrobe = true ∧ unheard s = t.duty :: unheard t) ∨
    (s.acquire.pst ≠ .play ∧ unheard t = unheard s ∧ (t.duty = s.duty ∨ t.duty = s.cfg.idleDuty)) := by
  obtain ⟨y, hy, -, hqueue, hduty, hstrobe⟩ := periodBoundary_tickCase ht
  rw [hqueue, hduty, hstrobe, ← unheard_acquire s]
  by_cases hp : s.acquire.pst = .play
  · refine .inl ⟨rfl, ?_⟩
    rw [h.acquire.tickCase_play hp hy, emit_duty]
    exact h.acquire.unheard_emit hp _
  · obtain ⟨hsame, hidle⟩ := h.acquire.tickCase_unheard hp pq_acquire hy
    rw [acquire_duty, acquire_cfg] at hidle
    exact .inr ⟨hp, hsame, hidle⟩

end Queue

/-- Settles O47, agent by agent: what each does to the queue, from the state its turn begins in. -/
theorem unheardSamplesAreAQueue : Obligations.UnheardSamplesAreAQueue := by
  unfold Obligations.UnheardSamplesAreAQueue
  intro s t u h hrst ht hreset hstop
  have hbegun : Inv (present u s).beginStep := h.presented u
  refine ⟨?_, fun hu hen hrun => ?_, fun hstrobe hplays => ?_⟩
  · rcases takeTurn_agent ht hreset with ⟨-, level, n, rfl⟩ | ⟨w, rfl, hc⟩ | ⟨hu, hr⟩ | ⟨-, hb⟩
    · exact .inr (.inr ⟨rfl, .inl rfl⟩)
    · have hi : decode w ≠ .stop := by simpa [isCommand] using hstop
      exact .inr (.inr ⟨hbegun.unheard_exec hi hc, .inl (exec_keeps_sound hc).2.1⟩)
    · obtain ⟨hduty, -⟩ := refillTurn_keeps_duty hr
      rcases hbegun.refillTurn_unheard hr with ⟨hen, d, hmix, happ⟩ | ⟨-, hsame⟩
      · exact .inl ⟨d, hu, hen, hmix, happ, hduty⟩
      · exact .inr (.inr ⟨hsame, .inl hduty⟩)
    · rcases hbegun.periodBoundary_unheard hb with htaken | ⟨-, hsame⟩
      · exact .inr (.inl htaken)
      · exact .inr (.inr hsame)
  · subst hu
    have hr : refillTurn (present .refill s).beginStep = .next t :=
      (takeTurn_refill (s := (present .refill s).beginStep) hrst).symm.trans ht
    rcases hbegun.refillTurn_unheard hr with ⟨-, happ⟩ | ⟨hnot, -⟩
    · exact happ
    · exact absurd hrun (hnot hen)
  · have hplay : (present u s).beginStep.acquire.pst = .play := acquire_pst_eq_play_iff.mpr hplays
    rcases hbegun.periodBoundary_unheard (periodBoundary_of_strobe ht rfl hstrobe) with ⟨-, htaken⟩ | ⟨hnot, -⟩
    · exact htaken
    · exact absurd hplay hnot

end Sys2Proof.Safety

/-! PROOF. The statements about the command word, and what a command answers whatever it is. -/

namespace Sys2Proof

open Sys2Proof.Laws.EncodedOpcode

/-! ## The fields of a word (rule R81) -/

/-- A word is its three fields. -/
theorem assemble_fields (w : Word32) : assemble (opField w) (chField w) (argField w) = w := by
  apply BitVec.eq_of_getLsbD_eq
  intro k hk
  simp only [assemble, opField, chField, argField, BitVec.getLsbD_or, BitVec.getLsbD_shiftLeft,
    BitVec.getLsbD_setWidth, BitVec.getLsbD_extractLsb', BitVec.truncate_eq_setWidth]
  rcases lt_or_ge k 24 with harg | harg
  · simp [harg, hk, show k < 28 by omega]
  rcases lt_or_ge k 28 with hch | hch
  · simp [hch, hk, show ¬ k < 24 by omega, show k - 24 < 4 by omega, show k - 24 < 32 by omega, harg]
  · simp [hk, hch, show ¬ k < 24 by omega, show ¬ k < 28 by omega, show ¬ k - 24 < 4 by omega,
      show k - 28 < 4 by omega, show k - 28 < 32 by omega]

theorem opField_and (v w : Word32) : opField (v &&& w) = opField v &&& opField w := BitVec.extractLsb'_and

theorem chField_and (v w : Word32) : chField (v &&& w) = chField v &&& chField w := BitVec.extractLsb'_and

theorem argField_and (v w : Word32) : argField (v &&& w) = argField v &&& argField w := BitVec.extractLsb'_and

/-- A mask that keeps `op` and some bits of `arg` clears the rest of the word. -/
theorem and_assemble (w : Word32) (mask : BitVec 24) :
    w &&& assemble 0xF 0 mask = assemble (opField w) 0 (argField w &&& mask) := by
  have hop : opField w &&& 0xF = opField w := BitVec.and_allOnes
  have hch : chField w &&& 0 = 0 := BitVec.and_zero
  rw [← assemble_fields (w &&& _), opField_and, chField_and, argField_and, opField_assemble, chField_assemble,
    argField_assemble, hop, hch]

/-- The mask of rule R85 keeps the opcode alone. -/
theorem and_opMask (w : Word32) : w &&& 0xF0000000#32 = assemble (opField w) 0 0 :=
  (and_assemble w 0).trans (congrArg (assemble (opField w) 0) BitVec.and_zero)

/-! ## Operands in the low bits of `arg` (rule R82) -/

/-- An operand widened to a field is read back. -/
theorem extractLsb'_zeroExtend {k n : Nat} (h : k ≤ n) (x : BitVec k) : (x.zeroExtend n).extractLsb' 0 k = x := by
  have hread : (x.zeroExtend n).extractLsb' 0 k = x.extractLsb' 0 k :=
    BitVec.extractLsb'_setWidth_of_le (by omega)
  rw [hread, BitVec.extractLsb'_eq_self]

/-- Reading the low bits and widening them again clears the others. -/
theorem zeroExtend_extractLsb' {n : Nat} (k : Nat) (x : BitVec n) :
    (x.extractLsb' 0 k).zeroExtend n = x &&& (BitVec.allOnes k).zeroExtend n := by
  apply BitVec.eq_of_getLsbD_eq
  intro i hi
  simp [hi, Bool.and_comm]

/-! ## Decoding (rule R85) -/

/-- Decoding keeps the opcode. -/
theorem opcode_decode (w : Word32) : (decode w).opcode = opField w := by
  unfold decode
  generalize opField w = op
  fin_cases op <;> rfl

theorem decode_eq_vfreq {w : Word32} (h : opField w = 1) : decode w = .vfreq (chField w) (argField w) := by
  simp [decode, h]

theorem decode_eq_fxset {w : Word32} (h : opField w = 2) : decode w = .fxset ((argField w).extractLsb' 0 2) := by
  simp [decode, h]

theorem decode_eq_mode {w : Word32} (h : opField w = 6) : decode w = .mode ((argField w).extractLsb' 0 1) := by
  simp [decode, h]

theorem decode_eq_clrerr {w : Word32} (h : opField w = 8) : decode w = .clrerr ((argField w).extractLsb' 0 3) := by
  simp [decode, h]

theorem opField_encode (i : Instr) : opField (encode i) = i.opcode := by
  cases i <;> exact opField_assemble _ _ _

/-- Decoding the word of an instruction gives it back, row by row. -/
theorem decode_encode (i : Instr) : decode (encode i) = i := by
  have hop := opField_encode i
  cases i with
  | vfreq ch freq => rw [decode_eq_vfreq hop, encode, chField_assemble, argField_assemble]
  | fxset flags => rw [decode_eq_fxset hop, encode, argField_assemble, extractLsb'_zeroExtend (by decide)]
  | mode auto => rw [decode_eq_mode hop, encode, argField_assemble, extractLsb'_zeroExtend (by decide)]
  | clrerr mask => rw [decode_eq_clrerr hop, encode, argField_assemble, extractLsb'_zeroExtend (by decide)]
  | nop | start | stop | poll | rdstat | reserved9 | reservedA | reservedB | reservedC | reservedD | reservedE
  | reservedF => rfl

/-- A word rebuilt from its opcode and an operand in the low bits is the word under the mask of both. -/
theorem assemble_low (k : Nat) (w : Word32) :
    assemble (opField w) 0 (((argField w).extractLsb' 0 k).zeroExtend 24) =
      w &&& assemble 0xF 0 ((BitVec.allOnes k).zeroExtend 24) := by
  rw [zeroExtend_extractLsb', and_assemble]

/-- Encoding a decoded word clears what its format ignores, row by row. -/
theorem encode_decode (w : Word32) : encode (decode w) = meaningfulBits w := by
  unfold meaningfulBits
  generalize hd : decode w = i
  have hop : i.opcode = opField w := hd ▸ opcode_decode w
  cases i with
  | vfreq ch freq =>
    obtain ⟨rfl, rfl⟩ := Instr.vfreq.inj (hd.symm.trans (decode_eq_vfreq hop.symm))
    rw [encode, hop, assemble_fields]
  | fxset flags =>
    obtain rfl := Instr.fxset.inj (hd.symm.trans (decode_eq_fxset hop.symm))
    rw [encode, hop]
    exact assemble_low 2 w
  | mode auto =>
    obtain rfl := Instr.mode.inj (hd.symm.trans (decode_eq_mode hop.symm))
    rw [encode, hop]
    exact assemble_low 1 w
  | clrerr mask =>
    obtain rfl := Instr.clrerr.inj (hd.symm.trans (decode_eq_clrerr hop.symm))
    rw [encode, hop]
    exact assemble_low 3 w
  | nop | start | stop | poll | rdstat | reserved9 | reservedA | reservedB | reservedC | reservedD | reservedE
  | reservedF =>
    rw [encode, hop]
    exact (and_opMask w).symm

/-- A word has the match of a row exactly when what it decodes to has the row's opcode (rule R85). -/
theorem and_opMask_eq_iff (w : Word32) (op : BitVec 4) :
    w &&& 0xF0000000#32 = assemble op 0 0 ↔ (decode w).opcode = op := by
  rw [and_opMask, opcode_decode]
  constructor
  · intro h
    rw [← opField_assemble (opField w) 0 0, h, opField_assemble]
  · rintro rfl
    rfl

/-! ## The statements -/

/-- Settles O2, by the rows of the opcode map; every operand type admits exactly its field's values. -/
theorem encodedInstructionsDecodeBack : Obligations.EncodedInstructionsDecodeBack := by
  unfold Obligations.EncodedInstructionsDecodeBack
  exact fun i _ => decode_encode i

/-- Settles O3: mask and match compare opcodes, and each row has an opcode of its own. -/
theorem opcodeMapSelectsByMaskAndMatch : Obligations.OpcodeMapSelectsByMaskAndMatch := by
  unfold Obligations.OpcodeMapSelectsByMaskAndMatch
  intro w
  have hrow := and_opMask_eq_iff w
  refine ⟨(hrow 0x0).trans ?_, (hrow 0x1).trans ?_, (hrow 0x2).trans ?_, (hrow 0x3).trans ?_, (hrow 0x4).trans ?_,
    (hrow 0x5).trans ?_, (hrow 0x6).trans ?_, (hrow 0x7).trans ?_, (hrow 0x8).trans ?_, (hrow 0x9).trans ?_,
    (hrow 0xA).trans ?_, (hrow 0xB).trans ?_, (hrow 0xC).trans ?_, (hrow 0xD).trans ?_, (hrow 0xE).trans ?_,
    (hrow 0xF).trans ?_⟩
  all_goals cases decode w <;> simp [Instr.opcode]

/-- Settles O4, row by row. -/
theorem encodingKeepsTheMeaningfulBits : Obligations.EncodingKeepsTheMeaningfulBits := by
  unfold Obligations.EncodingKeepsTheMeaningfulBits
  exact encode_decode

/-- Settles O1: fourteen fixed words. -/
theorem decodesTheWrittenOutWords : Obligations.DecodesTheWrittenOutWords := by
  unfold Obligations.DecodesTheWrittenOutWords
  decide

end Sys2Proof

namespace Sys2Proof.Machine

open Sys2Proof Sys2Proof.Safety

/-! ## The command port (rules R83, R270) -/

/-- The port is ready exactly out of reset. -/
theorem cmdReady_iff (s : State) : s.cmdReady = true ↔ s.rst = false := by
  simp [State.cmdReady]

/-- At a ready port a command turn is the whole command. -/
theorem takeTurn_command {s : State} (w : Word32) (h : s.cmdReady = true) :
    takeTurn (.command w) s = exec (decode w) s := by
  simp [takeTurn, commandTurn, h]

/-- A step takes the turn that is listed first. -/
theorem step_of_turns {s : State} {u : Turn} {rest : List Turn} (h : s.turns = u :: rest) :
    step s = takeTurn u { s with turns := rest, freeCtr := s.freeCtr + 1, out := Pulses.none } := by
  rw [step_eq, State.nextTurn, State.beginStep, h]
  rfl

/-- The host's word is put in front of the turns, unchanged (log 2). -/
theorem withFetchWord_eq (s : State) (w : Word32) :
    s.withFetchWord 32 w.toNat = { s with turns := .command w :: s.turns, rst := false } := by
  have hw : BitVec.ofNat 32 (w.toNat % 2 ^ 32) = w := by
    rw [Nat.mod_eq_of_lt w.isLt, BitVec.ofNat_toNat, BitVec.setWidth_eq]
  rw [State.withFetchWord, presentWord, hw]

/-! ## What a command leaves to a refill (rules R83, R176) -/

/-- A change from `s` to `t` that touches nothing a refill in progress uses, and makes no pulse but a response. -/
def LeavesRefill (s t : State) : Prop :=
  (t.voices.map fun v => (v.vstep, v.vact, v.phase)) = (s.voices.map fun v => (v.vstep, v.vact, v.phase)) ∧
  (s.fillBusy = true → t.bst.get s.fillBuf = s.bst.get s.fillBuf) ∧
  { t.out with rsp := s.out.rsp } = s.out ∧
  { t with
    voices := s.voices, fx := s.fx, auto := s.auto, rdIdx := s.rdIdx, sst := s.sst, pst := s.pst,
    bst := s.bst, rq := s.rq, pq := s.pq, lastw := s.lastw, silCnt := s.silCnt, pollPend := s.pollPend,
    underrun := s.underrun, freqSat := s.freqSat, cmdErr := s.cmdErr, out := s.out } = s

/-- STOP leaves the state of the buffer being filled (rule R164). -/
theorem get_dropBuffers_fillBuf {s : State} (h : s.fillBusy = true) :
    s.dropBuffers.get s.fillBuf = s.bst.get s.fillBuf := by
  cases hb : s.fillBuf <;> simp [State.dropBuffers, PerBuf.get, h, hb]

/-- No command touches what a refill uses: VFREQ writes a pending word, STOP spares the buffer being filled. -/
theorem exec_leavesRefill {i : Instr} {s t : State} (ht : exec i s = .next t) : LeavesRefill s t := by
  cases i with
  | vfreq ch freq =>
    have hlatched := map_voices_setVfreq (fun v => (v.vstep, v.vact, v.phase)) (fun _ _ => rfl) s (channelIndex ch) freq
    simp only [exec, execVfreq] at ht
    split_ifs at ht <;> cases ht
    · exact ⟨rfl, fun _ => rfl, rfl, rfl⟩
    · exact ⟨hlatched, fun _ => rfl, rfl, rfl⟩
    · exact ⟨hlatched, fun _ => rfl, rfl, rfl⟩
  | stop =>
    simp only [exec, execStop] at ht
    split at ht <;> cases ht
    · exact ⟨rfl, get_dropBuffers_fillBuf, rfl, rfl⟩
    · exact ⟨rfl, fun _ => rfl, rfl, rfl⟩
  | start | poll | mode =>
    simp only [exec, execStart, execPoll, execMode] at ht
    split_ifs at ht <;> cases ht <;> exact ⟨rfl, fun _ => rfl, rfl, rfl⟩
  | nop | fxset | rdstat | clrerr | reserved9 | reservedA | reservedB | reservedC | reservedD | reservedE
  | reservedF => cases ht; exact ⟨rfl, fun _ => rfl, rfl, rfl⟩

/-! ## The response port (rule R89) -/

/-- A command but RDSTAT leaves the response port. -/
theorem exec_rsp_of_ne_rdstat {i : Instr} {s t : State} (hi : i ≠ .rdstat) (ht : exec i s = .next t) :
    t.out.rsp = s.out.rsp := by
  cases i with
  | rdstat => exact absurd rfl hi
  | vfreq | start | stop | poll | mode =>
    simp only [exec, execVfreq, execStart, execStop, execPoll, execMode] at ht
    split_ifs at ht <;> cases ht <;> rfl
  | nop | fxset | clrerr | reserved9 | reservedA | reservedB | reservedC | reservedD | reservedE | reservedF =>
    cases ht; rfl

/-! ## The statements -/

/-- Settles O21, command by command. -/
theorem commandsNeverTouchARefill : Obligations.CommandsNeverTouchARefill := by
  unfold Obligations.CommandsNeverTouchARefill
  intro i s
  obtain ⟨t, ht⟩ := exec_completes i s
  exact ⟨t, ht, exec_leavesRefill ht⟩

/-- Settles O5: the turn taken is the one listed first, and a ready port performs the whole command. -/
theorem stepRunsThePresentedCommand : Obligations.StepRunsThePresentedCommand := by
  unfold Obligations.StepRunsThePresentedCommand
  refine ⟨fun s w rest hturns hready => ?_, cmdReady_iff, fun s w => ?_⟩
  · rw [step_of_turns hturns]
    exact takeTurn_command w hready
  · rw [withFetchWord_eq, step_of_turns rfl]
    exact takeTurn_command w rfl

/-- Settles O23: RDSTAT responds with `STATUS`, and every other command leaves the port as it was. -/
theorem onlyRdstatResponds : Obligations.OnlyRdstatResponds := by
  unfold Obligations.OnlyRdstatResponds
  intro i s hnone
  obtain ⟨t, ht⟩ := exec_completes i s
  refine ⟨t, ht, ?_⟩
  by_cases hi : i = .rdstat
  · subst hi
    cases ht
    exact ⟨⟨fun _ => rfl, fun _ => rfl⟩, fun _ => rfl⟩
  · have hquiet : t.rspValid = false := by rw [State.rspValid, exec_rsp_of_ne_rdstat hi ht, hnone]; rfl
    simp [hquiet, hi]

end Sys2Proof.Machine

/-! PROOF. The statement about the waveform table: the raised sine over the reals, its range and its fixed points. -/

namespace Sys2Proof.Safety

open Sys2Proof Sys2Proof.Machine

/-! ## The sine of a part of a turn (rules R101, R103) -/

/-- The sine at entry `i` of a table of `l` entries. -/
noncomputable def turnSine (i l : Nat) : ℝ := Real.sin (2 * Real.pi * i / l)

theorem turnSine_le_one (i l : Nat) : turnSine i l ≤ 1 := Real.sin_le_one _

theorem turnSine_zero (l : Nat) : turnSine 0 l = 0 := by simp [turnSine]

/-- Half a turn further, the sine is negated. -/
theorem turnSine_half_turn {m : Nat} (hm : 0 < m) (i : Nat) : turnSine (i + m) (2 * m) = -turnSine i (2 * m) := by
  have hangle : 2 * Real.pi * (i + m : Nat) / (2 * m : Nat) = 2 * Real.pi * i / (2 * m : Nat) + Real.pi := by
    push_cast; field_simp
  rw [turnSine, hangle, Real.sin_add_pi, turnSine]

/-- Mirrored at a quarter of a turn, the sine is the same. -/
theorem turnSine_mirror {i j m : Nat} (hm : 0 < m) (hij : i + j = m) : turnSine j (2 * m) = turnSine i (2 * m) := by
  have hangle : 2 * Real.pi * j / (2 * m : Nat) = Real.pi - 2 * Real.pi * i / (2 * m : Nat) := by
    have hij' : (j : ℝ) = m - i := by rw [← hij]; push_cast; ring
    rw [hij']; push_cast; field_simp
  rw [turnSine, hangle, Real.sin_pi_sub, turnSine]

/-- A `d`-th of a turn, whatever the length of the table. -/
theorem turnSine_part {m : Nat} (hm : 0 < m) (d : Nat) : turnSine m (d * m) = Real.sin (2 * Real.pi / d) := by
  rw [turnSine, Nat.cast_mul, mul_div_mul_right _ _ (by positivity)]

section Parts

variable {m : Nat} (hm : 0 < m)

include hm

theorem turnSine_half : turnSine m (2 * m) = 0 := by
  simpa [turnSine_zero] using turnSine_half_turn hm 0

theorem turnSine_quarter : turnSine m (4 * m) = 1 := by
  rw [turnSine_part hm, ← Real.sin_pi_div_two]; congr 1; push_cast; ring

theorem turnSine_eighth : turnSine m (8 * m) = √2 / 2 := by
  rw [turnSine_part hm, ← Real.sin_pi_div_four]; congr 1; push_cast; ring

theorem turnSine_twelfth : turnSine m (12 * m) = 1 / 2 := by
  rw [turnSine_part hm, ← Real.sin_pi_div_six]; congr 1; push_cast; ring

theorem turnSine_three_quarters : turnSine (3 * m) (4 * m) = -1 := by
  rw [← turnSine_quarter hm, show 3 * m = m + 2 * m by omega, show 4 * m = 2 * (2 * m) by omega,
    turnSine_half_turn (by omega)]

theorem turnSine_three_eighths : turnSine (3 * m) (8 * m) = √2 / 2 := by
  rw [← turnSine_eighth hm, show 8 * m = 2 * (4 * m) by omega, turnSine_mirror (by omega) (i := m) (by omega)]

theorem turnSine_five_twelfths : turnSine (5 * m) (12 * m) = 1 / 2 := by
  rw [← turnSine_twelfth hm, show 12 * m = 2 * (6 * m) by omega, turnSine_mirror (by omega) (i := m) (by omega)]

theorem turnSine_five_eighths : turnSine (5 * m) (8 * m) = -(√2 / 2) := by
  rw [← turnSine_eighth hm, show 5 * m = m + 4 * m by omega, show 8 * m = 2 * (4 * m) by omega,
    turnSine_half_turn (by omega)]

theorem turnSine_seven_eighths : turnSine (7 * m) (8 * m) = -(√2 / 2) := by
  rw [← turnSine_three_eighths hm, show 7 * m = 3 * m + 4 * m by omega, show 8 * m = 2 * (4 * m) by omega,
    turnSine_half_turn (by omega)]

theorem turnSine_seven_twelfths : turnSine (7 * m) (12 * m) = -(1 / 2) := by
  rw [← turnSine_twelfth hm, show 7 * m = m + 6 * m by omega, show 12 * m = 2 * (6 * m) by omega,
    turnSine_half_turn (by omega)]

theorem turnSine_eleven_twelfths : turnSine (11 * m) (12 * m) = -(1 / 2) := by
  rw [← turnSine_five_twelfths hm, show 11 * m = 5 * m + 6 * m by omega, show 12 * m = 2 * (6 * m) by omega,
    turnSine_half_turn (by omega)]

end Parts

/-! ## Raising and rounding (rules R101, R102) -/

/-- The sine value `x` raised to the range from 0 to `peak` and rounded to nearest, a tie upward. -/
noncomputable def raisedEntry (peak : Nat) (x : ℝ) : Int := ⌊(peak : ℝ) * (x + 1) / 2 + 1 / 2⌋

/-- Where the raised value is a quotient of naturals, the entry is their integer quotient. -/
theorem raisedEntry_of_div {peak a b : Nat} {x : ℝ} (hx : (peak : ℝ) * (x + 1) / 2 + 1 / 2 = (a : ℝ) / b) :
    raisedEntry peak x = (a / b : Nat) := by
  rw [raisedEntry, hx, ← Int.natCast_floor_eq_floor (by positivity), Nat.floor_div_eq_div]

theorem raisedEntry_zero (peak : Nat) : raisedEntry peak 0 = ((peak + 1) / 2 : Nat) :=
  raisedEntry_of_div (by push_cast; ring)

theorem raisedEntry_half (peak : Nat) : raisedEntry peak (1 / 2) = ((3 * peak + 2) / 4 : Nat) :=
  raisedEntry_of_div (by push_cast; ring)

theorem raisedEntry_neg_half (peak : Nat) : raisedEntry peak (-(1 / 2)) = ((peak + 2) / 4 : Nat) :=
  raisedEntry_of_div (by push_cast; ring)

theorem raisedEntry_one (peak : Nat) : raisedEntry peak 1 = peak := by
  rw [raisedEntry_of_div (a := 2 * peak + 1) (b := 2) (by push_cast; ring), show (2 * peak + 1) / 2 = peak by omega]

theorem raisedEntry_neg_one (peak : Nat) : raisedEntry peak (-1) = (0 : Nat) :=
  raisedEntry_of_div (a := 1) (b := 2) (by push_cast; ring)

theorem raisedEntry_mono (peak : Nat) : Monotone (raisedEntry peak) := by
  intro x y hxy
  unfold raisedEntry
  gcongr

theorem raisedEntry_turnSine_le (peak i l : Nat) : raisedEntry peak (turnSine i l) ≤ peak :=
  (raisedEntry_mono peak (turnSine_le_one i l)).trans_eq (raisedEntry_one peak)

/-- The entries of the TINY table an eighth of a turn from a zero of the sine are no ties. -/
theorem raisedEntry_tiny_eighths : raisedEntry 15 (√2 / 2) = 13 ∧ raisedEntry 15 (-(√2 / 2)) = 2 := by
  have hlo : (4 / 3 : ℝ) < √2 := Real.lt_sqrt_of_sq_lt (by norm_num)
  have hhi : √2 < (8 / 5 : ℝ) := (Real.sqrt_lt' (by norm_num)).mpr (by norm_num)
  exact ⟨Int.floor_eq_iff.mpr ⟨by push_cast; linarith, by push_cast; linarith⟩,
    Int.floor_eq_iff.mpr ⟨by push_cast; linarith, by push_cast; linarith⟩⟩

/-! ## Tables of a raised sine (rules R101, R103) -/

section RaisedSine

variable {c : Config}

theorem isRaisedSine_iff : isRaisedSine c ↔ c.rom.length = c.l ∧
    ∀ i < c.l, ∃ x : Nat, c.rom[i]? = some x ∧ (x : Int) = raisedEntry c.peak (turnSine i c.l) :=
  Iff.rfl

/-- The entry of a raised sine at an index whose sine is known. -/
theorem isRaisedSine.entry (h : isRaisedSine c) {i v : Nat} {x : ℝ} (hi : i < c.l) (hx : turnSine i c.l = x)
    (hv : raisedEntry c.peak x = v) : c.rom[i]? = some v := by
  obtain ⟨-, hentries⟩ := isRaisedSine_iff.mp h
  obtain ⟨y, hread, hy⟩ := hentries i hi
  rw [hx, hv, Nat.cast_inj] at hy
  rw [hread, hy]

/-- Rule R102. -/
theorem isRaisedSine.le_peak (h : isRaisedSine c) : ∀ v ∈ c.rom, v ≤ c.peak := by
  obtain ⟨hlen, hentries⟩ := isRaisedSine_iff.mp h
  intro v hv
  obtain ⟨i, hget⟩ := List.mem_iff_getElem?.mp hv
  obtain ⟨hi, -⟩ := List.getElem?_eq_some_iff.mp hget
  obtain ⟨y, hread, hy⟩ := hentries i (hlen ▸ hi)
  have hvy : v = y := Option.some.inj (hget.symm.trans hread)
  have hle := raisedEntry_turnSine_le c.peak i c.l
  omega

/-- Rule R103, the middle of the table. -/
theorem isRaisedSine.entry_half (h : isRaisedSine c) (hl : 0 < c.l) (hdiv : c.l % 2 = 0) :
    c.rom[c.l / 2]? = some ((c.peak + 1) / 2) := by
  obtain ⟨m, hm⟩ : ∃ m, c.l = 2 * m := ⟨c.l / 2, by omega⟩
  rw [show c.l / 2 = m by omega]
  exact h.entry (by omega) (hm ▸ turnSine_half (by omega)) (raisedEntry_zero _)

/-- Rule R103, the quarters of the table. -/
theorem isRaisedSine.entry_quarters (h : isRaisedSine c) (hl : 0 < c.l) (hdiv : c.l % 4 = 0) :
    c.rom[c.l / 4]? = some c.peak ∧ c.rom[3 * c.l / 4]? = some 0 := by
  obtain ⟨m, hm⟩ : ∃ m, c.l = 4 * m := ⟨c.l / 4, by omega⟩
  have hpos : 0 < m := by omega
  rw [show c.l / 4 = m by omega, show 3 * c.l / 4 = 3 * m by omega]
  exact ⟨h.entry (by omega) (hm ▸ turnSine_quarter hpos) (raisedEntry_one _),
    h.entry (by omega) (hm ▸ turnSine_three_quarters hpos) (raisedEntry_neg_one _)⟩

/-- Rule R103, the twelfths of the table. -/
theorem isRaisedSine.entry_twelfths (h : isRaisedSine c) (hl : 0 < c.l) (hdiv : c.l % 12 = 0) :
    c.rom[c.l / 12]? = some ((3 * c.peak + 2) / 4) ∧ c.rom[5 * c.l / 12]? = some ((3 * c.peak + 2) / 4) ∧
    c.rom[7 * c.l / 12]? = some ((c.peak + 2) / 4) ∧ c.rom[11 * c.l / 12]? = some ((c.peak + 2) / 4) := by
  obtain ⟨m, hm⟩ : ∃ m, c.l = 12 * m := ⟨c.l / 12, by omega⟩
  have hpos : 0 < m := by omega
  rw [show c.l / 12 = m by omega, show 5 * c.l / 12 = 5 * m by omega, show 7 * c.l / 12 = 7 * m by omega,
    show 11 * c.l / 12 = 11 * m by omega]
  exact ⟨h.entry (by omega) (hm ▸ turnSine_twelfth hpos) (raisedEntry_half _),
    h.entry (by omega) (hm ▸ turnSine_five_twelfths hpos) (raisedEntry_half _),
    h.entry (by omega) (hm ▸ turnSine_seven_twelfths hpos) (raisedEntry_neg_half _),
    h.entry (by omega) (hm ▸ turnSine_eleven_twelfths hpos) (raisedEntry_neg_half _)⟩

/-- The checks of rule R105, from the range and the fixed points. -/
theorem isRaisedSine.romOk (h : isRaisedSine c) (hl : 0 < c.l) : c.romOk = true := by
  obtain ⟨hlen, -⟩ := isRaisedSine_iff.mp h
  have hzero : c.rom[0]? = some ((c.peak + 1) / 2) := h.entry hl (turnSine_zero _) (raisedEntry_zero _)
  simp only [Config.romOk, Bool.and_eq_true, Bool.or_eq_true, decide_eq_true_eq, List.all_eq_true, ne_eq,
    ← imp_iff_not_or, and_assoc]
  exact ⟨hlen, h.le_peak, hzero, h.entry_half hl, h.entry_quarters hl, h.entry_twelfths hl⟩

end RaisedSine

/-- One entry of the TINY table, from the sine there and its rounding. -/
theorem tiny_entry {i v : Nat} {x : ℝ} (hread : romTiny[i]? = some v) (hx : turnSine i 8 = x)
    (hv : raisedEntry 15 x = v) : ∃ y : Nat, romTiny[i]? = some y ∧ (y : Int) = raisedEntry 15 (turnSine i 8) :=
  ⟨v, hread, by rw [hx, hv]⟩

/-- Rule R111: each entry of the TINY table, by the sine of its eighth of the turn. -/
theorem isRaisedSine_tiny : isRaisedSine Config.tiny := by
  obtain ⟨hhigh, hlow⟩ := raisedEntry_tiny_eighths
  refine isRaisedSine_iff.mpr ⟨rfl, fun i hi => ?_⟩
  change i < 8 at hi
  change ∃ y : Nat, romTiny[i]? = some y ∧ (y : Int) = raisedEntry 15 (turnSine i 8)
  interval_cases i
  · exact tiny_entry rfl (turnSine_zero 8) (raisedEntry_zero 15)
  · exact tiny_entry rfl (turnSine_eighth (m := 1) (by decide)) hhigh
  · exact tiny_entry rfl (turnSine_quarter (m := 2) (by decide)) (raisedEntry_one 15)
  · exact tiny_entry rfl (turnSine_three_eighths (m := 1) (by decide)) hhigh
  · exact tiny_entry rfl (turnSine_half (m := 4) (by decide)) (raisedEntry_zero 15)
  · exact tiny_entry rfl (turnSine_five_eighths (m := 1) (by decide)) hlow
  · exact tiny_entry rfl (turnSine_three_quarters (m := 2) (by decide)) (raisedEntry_neg_one 15)
  · exact tiny_entry rfl (turnSine_seven_eighths (m := 1) (by decide)) hlow

/-! ## The statements -/

/-- Settles O32: the TINY table entry by entry, and every raised sine by the range and the fixed points of its
entries. -/
theorem raisedSineTablesPassTheChecks : Obligations.RaisedSineTablesPassTheChecks := by
  unfold Obligations.RaisedSineTablesPassTheChecks
  exact ⟨isRaisedSine_tiny, fun c hl h => h.romOk (by omega)⟩

end Sys2Proof.Safety

/-! PROOF. The statements about the phase accumulators: the step and where it saturates, the advance and its modulo
law, VFREQ, and a whole refill with one sounding voice. -/

namespace Sys2Proof.Safety

open Sys2Proof Sys2Proof.Machine

/-! ## The step of a frequency word (rules R117, R119) -/

section Step

variable {c : Config}

theorem sampleRate_pos (hc : c.instanceOk = true) : 0 < c.fs * 2 ^ c.fq := by
  simp only [Config.instanceOk, Config.ratesOk, Bool.and_eq_true, decide_eq_true_eq] at hc
  obtain ⟨⟨⟨-, ⟨hfs, -⟩, -⟩, -⟩, -⟩ := hc
  exact Nat.mul_pos hfs (Nat.two_pow_pos _)

/-- The raw step is the frequency's part of the sample rate, in units of the table length. -/
theorem stepRaw_eq (c : Config) (f : Nat) : stepRaw c f = c.phmod * f / (c.fs * 2 ^ c.fq) := by
  rw [stepRaw, Config.phmod, Nat.mul_right_comm]

/-- The raw step is a whole table length or more exactly from the sample rate on. -/
theorem phmod_le_stepRaw_iff (hc : c.instanceOk = true) (f : Nat) :
    c.phmod ≤ stepRaw c f ↔ c.fs * 2 ^ c.fq ≤ f := by
  obtain ⟨-, -, -, -, -, hphmod⟩ := ranges_of_instanceOk hc
  rw [stepRaw_eq, Nat.le_div_iff_mul_le (sampleRate_pos hc), Nat.mul_le_mul_left_iff hphmod]

theorem stepOf_eq_stepRaw {f : Nat} (h : stepRaw c f < c.phmod) : stepOf c f = stepRaw c f :=
  Nat.min_eq_left (Nat.le_sub_one_of_lt h)

theorem stepOf_eq_of_saturated {f : Nat} (h : c.phmod ≤ stepRaw c f) : stepOf c f = c.phmod - 1 :=
  Nat.min_eq_right ((Nat.sub_le _ _).trans h)

end Step

/-- Settles O24: below the sample rate the raw step is in range, from there on it is cut to the largest phase. -/
theorem stepSaturatesAtTheSampleRate : Obligations.StepSaturatesAtTheSampleRate := by
  unfold Obligations.StepSaturatesAtTheSampleRate
  intro c f hc
  have hiff := phmod_le_stepRaw_iff hc f
  obtain ⟨-, -, -, -, -, hphmod⟩ := ranges_of_instanceOk hc
  refine ⟨hiff, fun hbelow => ?_, fun hfrom => ?_, stepOf_lt_phmod hphmod f⟩
  · exact stepOf_eq_stepRaw (Nat.lt_of_not_le fun hle => absurd (hiff.mp hle) (Nat.not_le_of_lt hbelow))
  · exact stepOf_eq_of_saturated (hiff.mpr hfrom)

/-! ## The phase after several advances (rules R123, R124, R125) -/

section Advance

variable {c : Config}

/-- Rule R124, by induction on the advances: each adds one step to the phase, modulo `PHMOD`. -/
theorem phaseAdv_iterate {p x : Nat} (hp : p < c.phmod) (hx : x < c.phmod) (k : Nat) :
    (fun q => phaseAdv c q x)^[k] p = (p + k * x) % c.phmod := by
  induction k with
  | zero => simp [Nat.mod_eq_of_lt hp]
  | succ k ih =>
    have hphase : (p + k * x) % c.phmod < c.phmod := Nat.mod_lt _ (by omega)
    rw [Function.iterate_succ_apply', ih, phaseAdv_eq_mod hphase hx, Nat.mod_add_mod, Nat.succ_mul, Nat.add_assoc]

/-- The advance changes nothing of a voice but its phase. -/
theorem vact_advance (c : Config) (v : Voice) : (v.advance c).vact = v.vact := by
  unfold Voice.advance
  split <;> rfl

theorem vact_advance_iterate (c : Config) (v : Voice) (k : Nat) : ((Voice.advance c)^[k] v).vact = v.vact := by
  induction k with
  | zero => rfl
  | succ k ih => rw [Function.iterate_succ_apply', vact_advance, ih]

theorem advance_iterate_of_inactive {v : Voice} (hact : v.vact = false) (k : Nat) : (Voice.advance c)^[k] v = v :=
  Function.iterate_fixed (by simp [Voice.advance, hact]) k

theorem advance_iterate_of_active {v : Voice} (hact : v.vact = true) (k : Nat) :
    (Voice.advance c)^[k] v = { v with phase := (fun q => phaseAdv c q v.vstep)^[k] v.phase } := by
  induction k with
  | zero => rfl
  | succ k ih =>
    rw [Function.iterate_succ_apply', ih, Function.iterate_succ_apply']
    simp [Voice.advance, hact]

/-- An active voice is `k` steps on after `k` advances. -/
theorem advance_iterate_phase {v : Voice} (hact : v.vact = true) (hphase : v.phase < c.phmod)
    (hstep : v.vstep < c.phmod) (k : Nat) :
    ((Voice.advance c)^[k] v).phase = (v.phase + k * v.vstep) % c.phmod := by
  rw [advance_iterate_of_active hact]
  exact phaseAdv_iterate hphase hstep k

end Advance

/-- Settles O25, by induction on the advances. -/
theorem phaseAdvanceIsTheModuloLaw : Obligations.PhaseAdvanceIsTheModuloLaw := by
  unfold Obligations.PhaseAdvanceIsTheModuloLaw
  exact fun c p x hp hx => ⟨phaseAdv_eq_mod hp hx, phaseAdv_iterate hp hx⟩

/-! ## VFREQ (rules R118, R119) -/

section Vfreq

variable {s : State} {ch : BitVec 4} (freq : FreqWord)

/-- The word of VFREQ, written out (rules R81, R85). -/
theorem decode_vfreq_word (ch : BitVec 4) (freq : FreqWord) :
    decode (0x10000000#32 ||| ch.zeroExtend 32 <<< 24 ||| freq.zeroExtend 32) = .vfreq ch freq := by
  have hop : (1 : BitVec 4).zeroExtend 32 <<< 28 = 0x10000000#32 := by decide
  rw [← hop]
  exact decode_encode (.vfreq ch freq)

/-- For a voice that exists: the pending word is written, and `FREQ_SAT` set if the step saturates. -/
theorem exec_vfreq_of_lt (h : ch.toNat < s.cfg.nch) :
    exec (.vfreq ch freq) s = .next { s.setVfreq ch.toNat freq with
      freqSat := s.freqSat || decide (s.cfg.phmod ≤ stepRaw s.cfg freq.toNat) } := by
  have hexists : ¬ channelIndex ch ≥ s.cfg.nch := Nat.not_le_of_lt h
  change execVfreq ch freq s = _
  rw [execVfreq, if_neg hexists]
  split
  next hsat =>
    have hflag : decide (s.cfg.phmod ≤ stepRaw s.cfg freq.toNat) = true := decide_eq_true hsat
    rw [hflag, Bool.or_true]
    rfl
  next hsat =>
    have hflag : decide (s.cfg.phmod ≤ stepRaw s.cfg freq.toNat) = false := decide_eq_false hsat
    rw [hflag, Bool.or_false]
    rfl

/-- For a voice that does not exist the command is refused. -/
theorem exec_vfreq_of_ge (h : s.cfg.nch ≤ ch.toNat) : exec (.vfreq ch freq) s = .next (s.raise .cmdErr) :=
  if_pos h

theorem vfreqAt_setVfreq {k : Nat} (h : k < s.voices.length) : (s.setVfreq k freq).vfreqAt k = some freq := by
  simp [State.vfreqAt, List.getElem?_eq_getElem h]

theorem setVfreq_voices_ne {j k : Nat} (h : j ≠ k) : (s.setVfreq k freq).voices[j]? = s.voices[j]? := by
  simp [h.symm]

end Vfreq

/-- Settles O10, from the word's fields and the two cases of the command. -/
theorem vfreqWritesOnlyItsPendingWord : Obligations.VfreqWritesOnlyItsPendingWord := by
  unfold Obligations.VfreqWritesOnlyItsPendingWord
  refine ⟨decode_vfreq_word, fun ch freq s hlen => ⟨fun hch => ?_, fun hch => ?_⟩⟩
  · refine ⟨_, exec_vfreq_of_lt freq hch, vfreqAt_setVfreq freq (hlen ▸ hch), fun k hk => setVfreq_voices_ne freq hk,
      map_voices_setVfreq _ (fun _ _ => rfl) s _ _, ?_, rfl⟩
    exact Bool.or_eq_true_iff.trans (or_congr_right decide_eq_true_iff)
  · exact ⟨_, exec_vfreq_of_ge freq hch, rfl, rfl⟩

/-! ## The sample of one sounding voice (rules R106, R139, R141, R148) -/

section OneVoice

variable {c : Config} {s : State}

/-- A list with one element that meets `p`. -/
theorem filter_eq_singleton {α : Type} {p : α → Bool} {l : List α} {n : Nat} {a : α} (ha : l[n]? = some a)
    (hp : p a = true) (hother : ∀ j b, j ≠ n → l[j]? = some b → p b = false) : l.filter p = [a] := by
  obtain ⟨hn, rfl⟩ := List.getElem?_eq_some_iff.mp ha
  have hbefore : (l.take n).filter p = [] := by
    simp only [List.filter_eq_nil_iff, List.mem_take_iff_getElem]
    rintro b ⟨j, hj, rfl⟩
    simp [hother j _ (by omega) (List.getElem?_eq_getElem (by omega))]
  have hafter : (l.drop (n + 1)).filter p = [] := by
    simp only [List.filter_eq_nil_iff, List.mem_drop_iff_getElem]
    rintro b ⟨j, hj, rfl⟩
    simp [hother (n + 1 + j) _ (by omega) (List.getElem?_eq_getElem (by omega))]
  conv_lhs => rw [← List.take_append_drop n l, List.drop_eq_getElem_cons hn]
  rw [List.filter_append, hbefore, List.filter_cons_of_pos hp, hafter, List.nil_append]

/-- Only the active voices are summed (rule R139). -/
theorem mixSum_filter_vact (c : Config) (vs : List Voice) : mixSum c (vs.filter Voice.vact) = mixSum c vs := by
  induction vs with
  | nil => rfl
  | cons v vs ih => cases hact : v.vact <;> simp [mixSum, hact, ih]

/-- One active voice sums to its own table sample. -/
theorem mixSum_of_one_active {vs : List Voice} {v : Voice} (hone : vs.filter Voice.vact = [v]) :
    mixSum c vs = lookup c v.phase := by
  have hact : v.vact = true := (List.mem_filter.mp (hone ▸ List.mem_singleton_self v)).2
  rw [← mixSum_filter_vact, hone]
  cases hx : lookup c v.phase <;> simp [mixSum, hact, hx]

theorem normalise_one (x : Nat) : normalise x 1 = x := by
  unfold normalise
  omega

/-- With both flags off the effect stage is the clamp (rules R143, R148). -/
theorem effectStage_off (c : Config) (tph m : Nat) : effectStage c 0#2 tph m = some (min m c.dutyMax) := by
  simp [effectStage, applyReshape, applyTremolo, altOn, tremoloOn]

theorem peak_le_dutyMax (hc : c.instanceOk = true) : c.peak ≤ c.dutyMax := by
  simp only [Config.instanceOk, Config.amplitudesOk, Bool.and_eq_true, decide_eq_true_eq] at hc
  obtain ⟨⟨⟨⟨-, ⟨⟨⟨-, hle⟩, -⟩, -⟩, -⟩, -⟩, -⟩, -⟩ := hc
  exact hle

/-- One sounding voice without effects: MixSample is the table at that voice's phase. -/
theorem Inv.mixSample_of_one_active (h : Inv s) {v : Voice} (hone : s.voices.filter Voice.vact = [v])
    (hfxl : s.fxl = 0) : ∃ x, lookup s.cfg v.phase = some x ∧ s.mixSample = .ok x := by
  have hv : v ∈ s.voices := (List.mem_filter.mp (hone ▸ List.mem_singleton_self v)).1
  obtain ⟨x, hx, hpeak⟩ := lookup_le_peak h.isInstance (h.voiceRange v hv).1
  have hnact : s.nact = 1 := by rw [h.activeCount, List.countP_eq_length_filter, hone]; rfl
  have hclamp : min x s.cfg.dutyMax = x := Nat.min_eq_left (hpeak.trans (peak_le_dutyMax h.isInstance))
  exact ⟨x, hx, by simp [State.mixSample, hnact, mixSum_of_one_active hone, hx, hfxl, normalise_one, effectStage_off,
    hclamp]⟩

end OneVoice

/-! ## Turns of the refill engine, one and several (rules R12, R169) -/

section RefillTurns

variable {s t : State}

theorem runTurns_append {ts : List Turn} (us : List Turn) (h : runTurns ts s = .next t) :
    runTurns (ts ++ us) s = runTurns us t := by
  induction ts generalizing s with
  | nil => cases h; rfl
  | cons u ts ih =>
    simp only [List.cons_append, runTurns] at h ⊢
    cases hstep : step (present u s) with
    | next r => rw [hstep] at h; exact ih h
    | fault r => rw [hstep] at h; cases h
    | refused r => rw [hstep] at h; cases h

/-- Out of reset one refill turn is what the refill engine does. -/
theorem runTurns_refill (hrst : s.rst = false) (h : refillTurn (present .refill s).beginStep = .next t) :
    runTurns [.refill] s = .next t := by
  have hstep : step (present .refill s) = .next t :=
    (takeTurn_refill (s := (present .refill s).beginStep) hrst).trans h
  simp only [runTurns, hstep]

theorem refillTurn_of_startEnabled {k : BufId} {rest : List BufId} (hen : s.refillStartEnabled = true)
    (hrq : s.rq = k :: rest) : refillTurn s = .next (s.refillStart k rest) := by
  simp [refillTurn, hen, hrq]

theorem refillTurn_of_sampleEnabled (hbusy : s.fillBusy = true) (hwr : s.wrIdx < s.cfg.b) :
    refillTurn s = s.refillSample := by
  simp [refillTurn, State.refillStartEnabled, State.refillSampleEnabled, hbusy, hwr]

theorem refillTurn_of_doneEnabled (hbusy : s.fillBusy = true) (hfull : s.wrIdx = s.cfg.b) :
    refillTurn s = .next s.refillDone := by
  simp [refillTurn, State.refillStartEnabled, State.refillSampleEnabled, State.refillDoneEnabled, hbusy, hfull]

/-- The state in which a refill of buffer `k` with a sounding voice has begun (rule R170). -/
def refillBegun (s : State) (k : BufId) (rest : List BufId) : State :=
  { s with
    rq := rest, pollPend := false, voices := s.voices.map (Voice.latch s.cfg),
    nact := s.voices.countP Voice.pendingActive, fxl := s.fx, silCnt := 0, fillBuf := k, fillBusy := true,
    wrIdx := 0, bst := s.bst.set k .filling, refillNo := s.refillNo.set k (s.refillNo.get k + 1) }

/-- With a sounding voice RefillStart latches and begins the fill; it does not cut off (rules R170, R172). -/
theorem refillStart_of_sounding (k : BufId) (rest : List BufId)
    (hsound : s.voices.countP Voice.pendingActive ≠ 0) : s.refillStart k rest = refillBegun s k rest := by
  rcases cutOffOrFill_cases (State.latchInputs { s with rq := rest, pollPend := false }).countSilence k with
    ⟨hsilent, -, -⟩ | ⟨-, heq⟩
  · exact absurd hsilent hsound
  · rw [State.refillStart, heq]
    simp [refillBegun, hsound]

/-- One sounding voice without effects: a RefillSample turn writes the table at that voice's phase. -/
theorem Inv.runTurns_refillSample (h : Inv s) (hrst : s.rst = false) {v : Voice}
    (hone : s.voices.filter Voice.vact = [v]) (hfxl : s.fxl = 0) (hbusy : s.fillBusy = true)
    (hwr : s.wrIdx < s.cfg.b) :
    ∃ x, lookup s.cfg v.phase = some x ∧
      runTurns [.refill] s = .next ((present .refill s).beginStep.refillWrite x) ∧
      Inv ((present .refill s).beginStep.refillWrite x) := by
  have hbegun := h.presented .refill
  obtain ⟨x, hx, hmix⟩ := hbegun.mixSample_of_one_active hone hfxl
  have hturn : Machine.refillTurn (present .refill s).beginStep =
      .next ((present .refill s).beginStep.refillWrite x) := by
    have hhas := hbegun.obufHas_fillBuf hbusy hwr
    rw [refillTurn_of_sampleEnabled (s := (present .refill s).beginStep) hbusy hwr, State.refillSample, hmix]
    exact if_pos hhas
  exact ⟨x, hx, runTurns_refill hrst hturn, hbegun.refillTurn hturn⟩

end RefillTurns

/-! ## The samples of a refill (rules R124, R147, R175)

`AfterSamples` is the invariant of the fill: what the first `n` RefillSample turns have made of the state that
RefillStart left. -/

/-- `n` RefillSample turns lead from `u`, where `v` is the one active voice, to `t`: the words from `WR_IDX` on are the
table along the phase of `v`, and the rest is the advance of every phase and the frame. -/
structure AfterSamples (u : State) (v : Voice) (n : Nat) (t : State) : Prop where
  inv : Inv t
  voices : t.voices = u.voices.map (Voice.advance u.cfg)^[n]
  tph : t.tph = (u.tph + n * u.cfg.tstep) % u.cfg.tmod
  wrIdx : t.wrIdx = u.wrIdx + n
  words : ∀ i < n, lookup u.cfg ((Voice.advance u.cfg)^[i] v).phase = some (t.wordAt u.fillBuf (u.wrIdx + i))
  frame : { t with
    obuf := u.obuf, voices := u.voices, tph := u.tph, wrIdx := u.wrIdx, wordRefill := u.wordRefill,
    freeCtr := u.freeCtr, out := u.out } = u

section Samples

variable {u t : State} {v : Voice} {n : Nat}

theorem AfterSamples.refl (h : Inv u) (v : Voice) : AfterSamples u v 0 u where
  inv := h
  voices := by simp
  tph := by simp [Nat.mod_eq_of_lt h.tphRange]
  wrIdx := rfl
  words := fun i hi => absurd hi (Nat.not_lt_zero i)
  frame := rfl

theorem AfterSamples.cfg (h : AfterSamples u v n t) : t.cfg = u.cfg := (congrArg State.cfg h.frame :)
theorem AfterSamples.rst (h : AfterSamples u v n t) : t.rst = u.rst := (congrArg State.rst h.frame :)
theorem AfterSamples.sst (h : AfterSamples u v n t) : t.sst = u.sst := (congrArg State.sst h.frame :)
theorem AfterSamples.fxl (h : AfterSamples u v n t) : t.fxl = u.fxl := (congrArg State.fxl h.frame :)
theorem AfterSamples.rq (h : AfterSamples u v n t) : t.rq = u.rq := (congrArg State.rq h.frame :)
theorem AfterSamples.pq (h : AfterSamples u v n t) : t.pq = u.pq := (congrArg State.pq h.frame :)
theorem AfterSamples.duty (h : AfterSamples u v n t) : t.duty = u.duty := (congrArg State.duty h.frame :)
theorem AfterSamples.fillBusy (h : AfterSamples u v n t) : t.fillBusy = u.fillBusy :=
  (congrArg State.fillBusy h.frame :)
theorem AfterSamples.fillBuf (h : AfterSamples u v n t) : t.fillBuf = u.fillBuf := (congrArg State.fillBuf h.frame :)

/-- The active voice is still the only one, `n` steps on. -/
theorem AfterSamples.active (h : AfterSamples u v n t) (hone : u.voices.filter Voice.vact = [v]) :
    t.voices.filter Voice.vact = [(Voice.advance u.cfg)^[n] v] := by
  have hvact : Voice.vact ∘ (Voice.advance u.cfg)^[n] = Voice.vact :=
    funext fun w => vact_advance_iterate u.cfg w n
  rw [h.voices, List.filter_map, hvact, hone, List.map_singleton]

/-- One RefillSample more. -/
theorem AfterSamples.write (h : AfterSamples u v n t) {x : Nat}
    (hx : lookup u.cfg ((Voice.advance u.cfg)^[n] v).phase = some x)
    (hinv : Inv ((present .refill t).beginStep.refillWrite x)) :
    AfterSamples u v (n + 1) ((present .refill t).beginStep.refillWrite x) := by
  refine ⟨hinv, ?_, ?_, ?_, fun i hi => ?_, h.frame⟩
  · change t.voices.map (Voice.advance t.cfg) = _
    rw [h.voices, h.cfg, List.map_map, Function.iterate_succ']
  · change (t.tph + t.cfg.tstep) % t.cfg.tmod = _
    rw [h.tph, h.cfg, Nat.mod_add_mod, Nat.succ_mul, Nat.add_assoc]
  · change t.wrIdx + 1 = _
    rw [h.wrIdx, Nat.add_assoc]
  · have hsame := refillWrite_wordAt_same (present .refill t).beginStep x
    change (State.refillWrite _ x).wordAt t.fillBuf t.wrIdx = x at hsame
    rcases Nat.lt_succ_iff_lt_or_eq.mp hi with hold | rfl
    · have hne : t.fillBuf ≠ u.fillBuf ∨ u.wrIdx + i ≠ t.wrIdx := .inr (by rw [h.wrIdx]; omega)
      rw [refillWrite_wordAt_other (s := (present .refill t).beginStep) x hne]
      exact h.words i hold
    · rw [hx, ← h.fillBuf, ← h.wrIdx, hsame]

/-- By induction on the turns: as many RefillSample turns as there is room for. -/
theorem runTurns_samples (hu : Inv u) (hrst : u.rst = false) (hbusy : u.fillBusy = true) (hfxl : u.fxl = 0)
    (hone : u.voices.filter Voice.vact = [v]) (n : Nat) (hn : u.wrIdx + n ≤ u.cfg.b) :
    ∃ t, runTurns (List.replicate n .refill) u = .next t ∧ AfterSamples u v n t := by
  induction n with
  | zero => exact ⟨u, rfl, .refl hu v⟩
  | succ n ih =>
    obtain ⟨t, hrun, ht⟩ := ih (by omega)
    have hwr : t.wrIdx < t.cfg.b := by rw [ht.wrIdx, ht.cfg]; omega
    obtain ⟨x, hx, hturn, hinv⟩ := ht.inv.runTurns_refillSample (ht.rst.trans hrst) (ht.active hone)
      (ht.fxl.trans hfxl) (ht.fillBusy.trans hbusy) hwr
    refine ⟨_, ?_, ht.write (ht.cfg ▸ hx) hinv⟩
    rw [List.replicate_succ', runTurns_append _ hrun, hturn]

end Samples

/-! ## A whole refill (rules R124, R126, R130, R147, R176) -/

section WholeRefill

variable {s : State} {k : BufId} {rest : List BufId} {v : Voice}

/-- The first refill turn with a sounding voice begins the fill. -/
theorem Inv.runTurns_refillStart (h : Inv s) (hrst : s.rst = false) (hen : s.refillStartEnabled = true)
    (hrq : s.rq = k :: rest) (hsound : s.voices.countP Voice.pendingActive ≠ 0) :
    runTurns [.refill] s = .next (refillBegun (present .refill s).beginStep k rest) ∧
      Inv (refillBegun (present .refill s).beginStep k rest) := by
  have hturn : Machine.refillTurn (present .refill s).beginStep =
      .next (refillBegun (present .refill s).beginStep k rest) := by
    rw [← refillStart_of_sounding (s := (present .refill s).beginStep) k rest hsound]
    exact refillTurn_of_startEnabled hen hrq
  exact ⟨runTurns_refill hrst hturn, (h.presented .refill).refillTurn hturn⟩

/-- The last refill turn, in a run, hands the full buffer over (rule R178). -/
theorem runTurns_refillDone (hrst : s.rst = false) (hbusy : s.fillBusy = true) (hfull : s.wrIdx = s.cfg.b)
    (hrun : s.sst = .run) :
    runTurns [.refill] s = .next { s with
      fillBusy := false, bst := s.bst.set s.fillBuf .ready, pq := s.pq ++ [s.fillBuf], freeCtr := s.freeCtr + 1,
      out := Pulses.none } := by
  refine runTurns_refill hrst ?_
  rw [refillTurn_of_doneEnabled (s := (present .refill s).beginStep) hbusy hfull, State.refillDone]
  exact congrArg Host.Outcome.next (if_pos hrun)

/-- The start, `B` samples and the hand-over, one after the other. -/
theorem Inv.runTurns_wholeRefill (h : Inv s) (hrst : s.rst = false) (hen : s.refillStartEnabled = true)
    (hrq : s.rq = k :: rest) (hfx : s.fx = 0) (hone : s.voices.filter Voice.pendingActive = [v]) :
    ∃ t, AfterSamples (refillBegun (present .refill s).beginStep k rest) (v.latch s.cfg) s.cfg.b t ∧
      runTurns (List.replicate (s.cfg.b + 2) .refill) s = .next { t with
        fillBusy := false, bst := t.bst.set k .ready, pq := s.pq ++ [k], freeCtr := t.freeCtr + 1,
        out := Pulses.none } := by
  have hsound : s.voices.countP Voice.pendingActive ≠ 0 := by simp [List.countP_eq_length_filter, hone]
  have hlatched : (s.voices.map (Voice.latch s.cfg)).filter Voice.vact = [v.latch s.cfg] := by
    rw [List.filter_map]
    exact congrArg (List.map (Voice.latch s.cfg)) hone
  obtain ⟨hrun, -, -, -, -⟩ := refillStartEnabled_iff.mp hen
  obtain ⟨hstart, hinv⟩ := h.runTurns_refillStart hrst hen hrq hsound
  obtain ⟨t, hsamples, ht⟩ := runTurns_samples hinv hrst rfl hfx hlatched s.cfg.b (Nat.zero_add _).le
  have hfull : t.wrIdx = t.cfg.b := by rw [ht.wrIdx, ht.cfg]; exact Nat.zero_add _
  have hdone := runTurns_refillDone (ht.rst.trans hrst) ht.fillBusy hfull (ht.sst.trans hrun)
  have hturns : List.replicate (s.cfg.b + 2) Turn.refill =
      [.refill] ++ (List.replicate s.cfg.b .refill ++ [.refill]) := by
    rw [← List.replicate_succ', List.replicate_succ, List.singleton_append]
  refine ⟨t, ht, ?_⟩
  rw [hturns, runTurns_append _ hstart, runTurns_append _ hsamples, hdone, ht.fillBuf, ht.pq]
  rfl

/-- A voice latched with a pending frequency moves by that frequency's step (rules R122, R124). -/
theorem latch_advance_phase (h : Inv s) (hv : v ∈ s.voices) (hpending : v.pendingActive = true) (n : Nat) :
    ((Voice.advance s.cfg)^[n] (v.latch s.cfg)).phase =
      (v.phase + n * stepOf s.cfg v.vfreq.toNat) % s.cfg.phmod := by
  obtain ⟨-, -, -, -, -, hphmod⟩ := ranges_of_instanceOk h.isInstance
  exact advance_iterate_phase (v := v.latch s.cfg) hpending (h.voiceRange v hv).1 (stepOf_lt_phmod hphmod _) n

/-- A voice latched without one stays (rule R125). -/
theorem latch_advance_phase_of_silent {c : Config} (hsilent : v.pendingActive = false) (n : Nat) :
    ((Voice.advance c)^[n] (v.latch c)).phase = v.phase := by
  rw [advance_iterate_of_inactive (v := v.latch c) hsilent]
  rfl

end WholeRefill

/-- Settles O38: RefillStart leaves one active voice, each RefillSample writes the table at its phase and advances it,
and RefillDone hands the buffer over. -/
theorem oneVoiceRefillReadsTheTable : Obligations.OneVoiceRefillReadsTheTable := by
  unfold Obligations.OneVoiceRefillReadsTheTable
  intro s k rest ch v h hrst hen hrq hfx hv hvfreq hother
  have hpending : v.pendingActive = true := by simpa [Voice.pendingActive] using hvfreq
  have hsilent : ∀ j w, j ≠ ch → s.voices[j]? = some w → w.pendingActive = false := fun j w hj hw => by
    simp [Voice.pendingActive, hother j w hj hw]
  obtain ⟨t, ht, hrun⟩ := h.runTurns_wholeRefill hrst hen hrq hfx (filter_eq_singleton hv hpending hsilent)
  have hphase := latch_advance_phase h (List.mem_of_getElem? hv) hpending
  have hvoices : ∀ j : Nat, t.voices[j]?.map Voice.phase =
      s.voices[j]?.map fun w : Voice => ((Voice.advance s.cfg)^[s.cfg.b] (w.latch s.cfg)).phase := fun j => by
    simp [ht.voices, refillBegun, present, Function.comp_def]
  refine ⟨_, hrun, rfl, ht.rq, PerBuf_get_set_same _ _ _, rfl, ht.duty, fun i hi => ?_, ?_, fun j hj => ?_, ht.tph⟩
  · have hword : lookup s.cfg ((Voice.advance s.cfg)^[i] (v.latch s.cfg)).phase = some (t.wordAt k (0 + i)) :=
      ht.words i hi
    rw [hphase i, Nat.zero_add] at hword
    exact hword
  · refine (hvoices ch).trans ?_
    rw [hv]
    exact congrArg some (hphase s.cfg.b)
  · refine (hvoices j).trans ?_
    cases hw : s.voices[j]? with
    | none => rfl
    | some w => exact congrArg some (latch_advance_phase_of_silent (hsilent j w hj hw) _)

end Sys2Proof.Safety

/-! PROOF. The statements about the mixer: FXSET, the normalisation, voices in phase, the effect stage and the range of
each stage of MixSample. -/

namespace Sys2Proof.Safety

open Sys2Proof Sys2Proof.Machine

/-! ## FXSET (rule R136) -/

/-- The word of FXSET, written out (rules R81, R85). -/
theorem decode_fxset_word (flags : BitVec 2) : decode (0x20000000#32 ||| flags.zeroExtend 32) = .fxset flags := by
  have harg : (flags.zeroExtend 24).zeroExtend 32 = flags.zeroExtend 32 :=
    BitVec.setWidth_setWidth (by decide)
  have hop : (2 : BitVec 4).zeroExtend 32 <<< 28 ||| (0 : BitVec 4).zeroExtend 32 <<< 24 = 0x20000000#32 := by decide
  rw [← hop, ← harg]
  exact decode_encode (.fxset flags)

theorem exec_fxset (flags : BitVec 2) (s : State) : exec (.fxset flags) s = .next { s with fx := flags } := rfl

/-- Settles O11, from the word's fields and the command's one field write. -/
theorem fxsetSetsBothPendingFlags : Obligations.FxsetSetsBothPendingFlags := by
  unfold Obligations.FxsetSetsBothPendingFlags
  exact fun flags s => ⟨decode_fxset_word flags, _, exec_fxset flags s, rfl, rfl⟩

/-! ## The normalisation (rule R141) -/

section Normalise

variable {n : Nat}

/-- The quotient to nearest, a tie upward: the half-open interval of sums that give `m`. -/
theorem normalise_eq_iff (hn : 0 < n) (acc m : Nat) :
    normalise acc n = m ↔ 2 * n * m ≤ 2 * acc + n ∧ 2 * acc + n < 2 * n * m + 2 * n := by
  rw [normalise, Nat.div_eq_iff (by omega), Nat.mul_comm m]
  omega

theorem normalise_mono (n : Nat) : Monotone fun acc => normalise acc n :=
  fun _ _ hle => Nat.div_le_div_right (by omega)

/-- The sum of `n` equal samples is normalised to that sample. -/
theorem normalise_mul (hn : 0 < n) (x : Nat) : normalise (n * x) n = x := by
  rw [normalise_eq_iff hn, Nat.mul_assoc]
  omega

end Normalise

/-- Settles O26: the quotient's interval, and the bound by monotonicity from `n` samples at the peak. -/
theorem normalisationRoundsToNearest : Obligations.NormalisationRoundsToNearest := by
  unfold Obligations.NormalisationRoundsToNearest
  intro acc n m peak hn
  refine ⟨normalise_eq_iff hn acc m, fun hacc => ?_⟩
  calc normalise acc n ≤ normalise (n * peak) n := normalise_mono n hacc
    _ = peak := normalise_mul hn peak

/-! ## Voices in phase (rule R142) -/

/-- Every active voice at the phase `p` adds the one sample looked up there (rule R139). -/
theorem mixSum_of_equal_phases {c : Config} {p x : Nat} (hx : lookup c p = some x) (vs : List Voice)
    (hphase : ∀ v ∈ vs, v.vact = true → v.phase = p) : mixSum c vs = some (vs.countP Voice.vact * x) := by
  induction vs with
  | nil => simp [mixSum]
  | cons v vs ih =>
    obtain ⟨hv, hrest⟩ := List.forall_mem_cons.mp hphase
    cases hact : v.vact with
    | false => simp [mixSum, hact, ih hrest]
    | true => simp [mixSum, hact, hv hact, hx, ih hrest, Nat.succ_mul, Nat.add_comm x]

/-- Settles O27, by induction on the voices for the sum. -/
theorem identicalVoicesMixToOne : Obligations.IdenticalVoicesMixToOne := by
  unfold Obligations.IdenticalVoicesMixToOne
  exact fun c vs p x hphase hx hactive => ⟨mixSum_of_equal_phases hx vs hphase, normalise_mul hactive x⟩

/-! ## The effect stage (rules R143 to R146, R148) -/

theorem effectStage_tremolo (c : Config) (tph m : Nat) :
    effectStage c 1#2 tph m = (tremGain c tph).map fun g => min (m * g / c.gden) c.dutyMax := by
  simp [effectStage, applyReshape, applyTremolo, altOn, tremoloOn, Function.comp_def]

theorem effectStage_alternate (c : Config) (tph m : Nat) :
    effectStage c 2#2 tph m = (reshape c m).map fun r => min r c.dutyMax := by
  simp [effectStage, applyReshape, applyTremolo, altOn, tremoloOn, Option.map_eq_bind]

/-- With both flags on the tremolo is of the reshaped sample (rule R146). -/
theorem effectStage_both (c : Config) (tph m : Nat) :
    effectStage c 3#2 tph m =
      (reshape c m).bind fun r => (tremGain c tph).map fun g => min (r * g / c.gden) c.dutyMax := by
  simp [effectStage, applyReshape, applyTremolo, altOn, tremoloOn, Function.comp_def]

section Effects

variable {c : Config} {fxl : BitVec 2} {tph m r y : Nat}

/-- The root of a product of two factors up to `PEAK` is at most `PEAK` (rule R144). -/
theorem isqrt_mul_peak_le (hm : m ≤ c.peak) : isqrt (m * c.peak) ≤ c.peak := by
  obtain ⟨hroot, -⟩ := isqrtIsTheLargestRoot (m * c.peak)
  exact Nat.mul_self_le_mul_self_iff.mp (hroot.trans (Nat.mul_le_mul_right c.peak hm))

/-- With the default `Reshape` the first effect keeps the amplitude (rules R143, R144). -/
theorem applyReshape_le_peak (hdefault : c.reshape = .isqrtPeak) (hm : m ≤ c.peak)
    (hr : applyReshape c fxl m = some r) : r ≤ c.peak := by
  unfold applyReshape at hr
  split at hr
  · rw [reshape, hdefault] at hr
    exact Option.some.inj hr ▸ isqrt_mul_peak_le hm
  · exact Option.some.inj hr ▸ hm

/-- The gain is at most one, so the tremolo never amplifies (rule R145). -/
theorem applyTremolo_le (hc : c.instanceOk = true) (ht : tph < c.tmod) (hy : applyTremolo c fxl tph r = some y) :
    y ≤ r := by
  obtain ⟨heffects, hlen, -⟩ := tables_of_instanceOk hc
  obtain ⟨g, hg, hle⟩ := tremGain_of_effectsOk heffects hlen ht
  unfold applyTremolo at hy
  split at hy
  · rw [hg] at hy
    exact Option.some.inj hy ▸ Nat.div_le_of_le_mul (Nat.mul_comm r g ▸ Nat.mul_le_mul_right r hle)
  · exact (Option.some.inj hy).ge

end Effects

/-! ## MixSample (rules R137, R138, R149) -/

section MixSample

variable {s : State}

theorem mixSample_of_silent (h : s.nact = 0) : s.mixSample = .ok s.cfg.idleDuty := if_pos h

/-- With an active voice MixSample is the effect stage of the normalised sum. -/
theorem mixSample_eq_ok_iff {acc d : Nat} (hactive : s.nact ≠ 0) (hacc : mixSum s.cfg s.voices = some acc) :
    s.mixSample = .ok d ↔ effectStage s.cfg s.fxl s.tph (normalise acc s.nact) = some d := by
  constructor
  · intro hd
    obtain ⟨hsilent, -⟩ | ⟨-, acc', hacc', hstage⟩ := mixSample_ok hd
    · exact absurd hsilent hactive
    · obtain rfl := Option.some.inj (hacc.symm.trans hacc')
      exact hstage
  · intro hstage
    simp [State.mixSample, hactive, hacc, hstage]

end MixSample

/-- Settles O28: silence is decided before the flags are looked at. -/
theorem silentSampleIsTheIdleValue : Obligations.SilentSampleIsTheIdleValue := by
  unfold Obligations.SilentSampleIsTheIdleValue
  exact fun s flags hsilent => mixSample_of_silent (s := { s with fxl := flags }) hsilent

/-- Settles O29, from the stage at each setting of the flags; the TINY sample is run in both orders. -/
theorem effectsComposeReshapeThenTremolo : Obligations.EffectsComposeReshapeThenTremolo := by
  unfold Obligations.EffectsComposeReshapeThenTremolo
  refine ⟨fun c tph m => ?_, by decide, by decide, fun s acc d => mixSample_eq_ok_iff⟩
  exact ⟨effectStage_off c tph m, effectStage_tremolo c tph m, effectStage_alternate c tph m, effectStage_both c tph m⟩

/-- Settles O30: the invariants put every stage's operands in its range, and each stage keeps the bound. -/
theorem mixStagesStayInRange : Obligations.MixStagesStayInRange := by
  unfold Obligations.MixStagesStayInRange
  intro s h hactive
  have hphase : ∀ v ∈ s.voices, v.phase < s.cfg.phmod := fun v hv => (h.voiceRange v hv).1
  obtain ⟨acc, hacc, hsum⟩ := mixSum_le_peak_mul h.isInstance s.voices hphase
  rw [← h.activeCount] at hsum
  have hnch : s.nact ≤ s.cfg.nch := h.activeCount ▸ h.voiceCount ▸ List.countP_le_length
  have hm : normalise acc s.nact ≤ s.cfg.peak := normalise_le_peak hactive hsum
  obtain ⟨d, hd⟩ := h.mixSample_ok
  obtain ⟨r, y, hr, hy, hclamp⟩ := effectStage_some ((mixSample_eq_ok_iff hactive hacc).mp hd)
  exact ⟨fun v hv => lookup_le_peak h.isInstance (hphase v hv), acc, r, y, d, hacc, hsum,
    Nat.mul_le_mul_right s.cfg.peak hnch, hm, hr, fun hdefault => applyReshape_le_peak hdefault hm hr, hy,
    applyTremolo_le h.isInstance h.tphRange hy, hd, hclamp, hclamp ▸ Nat.min_le_right y s.cfg.dutyMax⟩

end Sys2Proof.Safety

/-! PROOF. The statements about the buffer scheduler: its commands, the three steps of the refill engine, the silence
after STOP and the transition table. -/

namespace Sys2Proof.Safety

open Sys2Proof Sys2Proof.Machine

/-! ## The scheduler's commands, case by case (rules R162 to R168) -/

section Commands

variable {s : State}

theorem exec_start_of_cfgErr (h : s.cfg.cfgErr = true) : exec .start s = .next (s.raise .cmdErr) := if_pos h

theorem exec_start_of_idle (hok : s.cfg.cfgErr = false) (h : s.sst = .idle) :
    exec .start s = .next { s with
      sst := .run, pst := .prime, rq := startRequests s.cfg, pq := [], silCnt := 0, lastw := false,
      pollPend := true, rdIdx := 0 } :=
  (if_neg (ne_true_of_eq_false hok)).trans (if_pos h)

theorem exec_start_of_not_idle (hok : s.cfg.cfgErr = false) (h : s.sst ≠ .idle) : exec .start s = .next s :=
  (if_neg (ne_true_of_eq_false hok)).trans (if_neg h)

theorem startRequests_of_one {c : Config} (h : c.nbuf = 1) : startRequests c = [.b0] := if_pos h

theorem startRequests_of_two {c : Config} (h : c.nbuf = 2) : startRequests c = [.b0, .b1] := if_neg (by omega)

theorem exec_stop_of_run (h : s.sst = .run) :
    exec .stop s = .next { s with
      rq := [], pq := [], lastw := false, pollPend := false, pst := .off, bst := s.dropBuffers,
      sst := if s.fillBusy then .stopping else .idle } :=
  if_pos h

theorem exec_stop_of_not_run (h : s.sst ≠ .run) : exec .stop s = .next s := if_neg h

/-- Every buffer the block has but one being filled is dropped (rule R164). -/
theorem dropBuffers_get (s : State) (b : BufId) :
    s.dropBuffers.get b =
      if s.cfg.hasBuf b = true ∧ ¬(s.fillBusy = true ∧ s.fillBuf = b) then .empty else s.bst.get b := by
  cases b <;> simp [State.dropBuffers, PerBuf.get, imp_iff_not_or]

theorem exec_poll_of_waiting (hrun : s.sst = .run) (hrq : s.rq ≠ []) :
    exec .poll s = .next { s with pollPend := true } :=
  if_pos ⟨hrun, List.length_pos_iff.mpr hrq⟩

theorem exec_poll_of_not_waiting (h : s.sst ≠ .run ∨ s.rq = []) : exec .poll s = .next s :=
  if_neg fun ⟨hrun, hlen⟩ => h.elim (absurd hrun) (absurd · (List.length_pos_iff.mp hlen))

variable (auto : BitVec 1)

theorem exec_mode_of_idle (h : s.sst = .idle) : exec (.mode auto) s = .next { s with auto := modeAuto auto } :=
  if_neg (not_not_intro h)

theorem exec_mode_of_not_idle (h : s.sst ≠ .idle) : exec (.mode auto) s = .next (s.raise .cmdErr) := if_pos h

theorem modeAuto_iff : modeAuto auto = true ↔ auto = 1 := by
  revert auto
  decide

/-- The word of a `CA` command, written out: the opcode and an operand in the low bits (rules R81, R82). -/
theorem assemble_operand {k : Nat} (hk : k ≤ 24) (op : BitVec 4) (x : BitVec k) :
    assemble op 0 (x.zeroExtend 24) = op.zeroExtend 32 <<< 28 ||| x.zeroExtend 32 := by
  have hlow : (x.zeroExtend 24).zeroExtend 32 = x.zeroExtend 32 := BitVec.setWidth_setWidth (by omega)
  have hch : (0 : BitVec 4).zeroExtend 32 <<< 24 = 0 := by decide
  rw [assemble, hlow, hch]
  exact congrArg (· ||| _) BitVec.or_zero

theorem decode_mode_word : decode (0x60000000#32 ||| auto.zeroExtend 32) = .mode auto := by
  have hword : encode (.mode auto) = 0x60000000#32 ||| auto.zeroExtend 32 := assemble_operand (by decide) 6 auto
  rw [← hword, decode_encode]

end Commands

/-- Settles O12, from the three cases of START. -/
theorem startOnlyFromIdle : Obligations.StartOnlyFromIdle := by
  unfold Obligations.StartOnlyFromIdle
  refine ⟨decode_encode .start, fun s => ⟨fun herr => ?_, fun hok hidle => ?_, exec_start_of_not_idle⟩⟩
  · exact ⟨_, exec_start_of_cfgErr herr, rfl, rfl⟩
  · exact ⟨_, exec_start_of_idle hok hidle, rfl, rfl, startRequests_of_one, startRequests_of_two, rfl, rfl, rfl, rfl,
      rfl, rfl⟩

/-- Settles O13, from the two cases of STOP and what it leaves of each buffer. -/
theorem stopEndsPlaybackAtOnce : Obligations.StopEndsPlaybackAtOnce := by
  unfold Obligations.StopEndsPlaybackAtOnce
  refine ⟨decode_encode .stop, fun s => ⟨fun hrun => ?_, exec_stop_of_not_run⟩⟩
  exact ⟨_, exec_stop_of_run hrun, rfl, rfl, rfl, rfl, rfl, dropBuffers_get s, rfl, rfl⟩

/-- Settles O14, from the two cases of POLL. -/
theorem pollIsRememberedForAWaitingRequest : Obligations.PollIsRememberedForAWaitingRequest := by
  unfold Obligations.PollIsRememberedForAWaitingRequest
  refine ⟨decode_encode .poll, fun s => ⟨fun hrun hrq => ?_, exec_poll_of_not_waiting⟩⟩
  exact ⟨_, exec_poll_of_waiting hrun hrq, rfl, rfl⟩

/-- Settles O15, from the word's fields and the two cases of MODE. -/
theorem modeOnlyWhileIdle : Obligations.ModeOnlyWhileIdle := by
  unfold Obligations.ModeOnlyWhileIdle
  refine fun auto s => ⟨decode_mode_word auto, fun hidle => ?_, fun hnot => ?_⟩
  · exact ⟨_, exec_mode_of_idle auto hidle, modeAuto_iff auto, rfl⟩
  · exact ⟨_, exec_mode_of_not_idle auto hnot, rfl, rfl⟩

/-! ## The steps of the refill engine (rules R169, R170, R175, R178) -/

section Refill

variable {s : State}

theorem refillTurn_of_none_enabled (hstart : s.refillStartEnabled = false) (hsample : s.refillSampleEnabled = false)
    (hdone : s.refillDoneEnabled = false) : refillTurn s = .next s := by
  simp [refillTurn, hstart, hsample, hdone]

/-- For a phase and a step in range the advance of an active voice is modulo `PHMOD` (rules R123, R125). -/
theorem advance_eq_mod {c : Config} {v : Voice} (hphase : v.phase < c.phmod) (hstep : v.vstep < c.phmod) :
    v.advance c = if v.vact = true then { v with phase := (v.phase + v.vstep) % c.phmod } else v := by
  rw [Voice.advance, phaseAdv_eq_mod hphase hstep]

/-- Where the invariants hold an enabled RefillSample is taken (rules R63, R175). -/
theorem Inv.refillTurn_sample (h : Inv s) (hbusy : s.fillBusy = true) (hwr : s.wrIdx < s.cfg.b) :
    ∃ d, s.mixSample = .ok d ∧ Machine.refillTurn s = .next (s.refillWrite d) := by
  obtain ⟨t, ht⟩ := refillSample_completes h (refillSampleEnabled_iff.mpr ⟨hbusy, hwr⟩)
  obtain ⟨d, hmix, -, rfl⟩ := refillSample_next ht
  exact ⟨d, hmix, (refillTurn_of_sampleEnabled hbusy hwr).trans ht⟩

end Refill

/-- Settles O34: RefillStart needs no refill in progress, and the other two need different write indices. -/
theorem atMostOneRefillStepIsEnabled : Obligations.AtMostOneRefillStepIsEnabled := by
  unfold Obligations.AtMostOneRefillStepIsEnabled
  intro s
  simp only [refillStartEnabled_iff, refillSampleEnabled_iff, refillDoneEnabled_iff]
  refine ⟨?_, ?_, ?_, refillTurn_of_none_enabled⟩
  · rintro ⟨⟨-, hidle, -⟩, hbusy, -⟩
    simp [hidle] at hbusy
  · rintro ⟨⟨-, hidle, -⟩, hbusy, -⟩
    simp [hidle] at hbusy
  · rintro ⟨⟨-, hroom⟩, -, hfull⟩
    exact absurd hfull hroom.ne

/-- Settles O35, from the two cases of sub-step 4 in the state that sub-steps 1 to 3 leave. -/
theorem refillStartLatchesAndFillsOrCutsOff : Obligations.RefillStartLatchesAndFillsOrCutsOff := by
  unfold Obligations.RefillStartLatchesAndFillsOrCutsOff
  intro s k rest n cut hrun hbusy hrq hlast hmode hn hcut
  have hen : s.refillStartEnabled = true :=
    refillStartEnabled_iff.mpr ⟨hrun, hbusy, by simp [hrq], hlast, hmode⟩
  have hturn := refillTurn_of_startEnabled hen hrq
  have hsil : (State.latchInputs { s with rq := rest, pollPend := false }).countSilence.silCnt = n := hn.symm
  rcases cutOffOrFill_cases (State.latchInputs { s with rq := rest, pollPend := false }).countSilence k with
    ⟨hsilent, hlimit, heq⟩ | ⟨hsound, heq⟩ <;> rw [State.refillStart, heq] at hturn
  · obtain rfl : cut = true := hcut.mpr ⟨hsilent, hsil.symm.trans hlimit⟩
    exact ⟨_, hturn, rfl, rfl, rfl, hsil, rfl, rfl, rfl, hbusy, rfl, rfl, fun b => by simp, rfl⟩
  · obtain rfl : cut = false := by
      refine eq_false_of_ne_true fun hc => hsound ?_
      obtain ⟨hsilent, hlimit⟩ := hcut.mp hc
      exact ⟨hsilent, hsil.trans hlimit⟩
    refine ⟨_, hturn, rfl, rfl, rfl, hsil, rfl, rfl, hlast, rfl, rfl, rfl, fun b => ?_, rfl⟩
    simp [PerBuf_get_set, eq_comm]

/-- Settles O36: the sample MixSample gives is the one word written, and each active voice moves modulo `PHMOD`. -/
theorem refillSampleWritesOneWordAndAdvances : Obligations.RefillSampleWritesOneWordAndAdvances := by
  unfold Obligations.RefillSampleWritesOneWordAndAdvances
  intro s h hbusy hwr
  obtain ⟨d, hmix, hturn⟩ := h.refillTurn_sample hbusy hwr
  refine ⟨d, _, hmix, hturn, refillWrite_wordAt_same s d, fun b i hne => ?_, ?_, rfl, rfl, rfl⟩
  · exact refillWrite_wordAt_other d (hne.imp_left Ne.symm)
  · refine List.map_congr_left fun v hv => ?_
    obtain ⟨hphase, hstep⟩ := h.voiceRange v hv
    exact advance_eq_mod hphase hstep

/-- Settles O37, from the two cases of RefillDone. -/
theorem refillDoneHandsOverOrDiscards : Obligations.RefillDoneHandsOverOrDiscards := by
  unfold Obligations.RefillDoneHandsOverOrDiscards
  intro s hbusy hfull
  refine ⟨_, refillTurn_of_doneEnabled hbusy hfull, ?_⟩
  rcases refillDone_cases s with ⟨hrun, heq⟩ | ⟨hrun, heq⟩ <;> rw [heq]
  · exact ⟨rfl, congrArg (s.bst.set s.fillBuf) (if_pos hrun).symm, (if_pos hrun).symm,
      hrun.trans (if_pos hrun).symm, rfl⟩
  · exact ⟨rfl, congrArg (s.bst.set s.fillBuf) (if_neg hrun).symm, (if_neg hrun).symm,
      (if_neg hrun).symm, rfl⟩

/-! ## Silence while the block does not play (rules R164, R205, R210) -/

section Silence

variable {s t : State} {u : Turn}

/-- Sub-step 1 of SampleTick finds nothing to take out of a run, or with no filled buffer (rule R202). -/
theorem acquire_of_nothing_ready (h : s.pst = .off ∨ s.pq = []) : s.acquire = s := by
  rcases acquire_cases s with ⟨k, rest, hp, hpq, -⟩ | ⟨-, -, heq⟩ | ⟨-, heq⟩
  · exfalso
    rcases h with hoff | hnone
    · simp [hoff] at hp
    · simp [hnone] at hpq
  · exact heq
  · exact heq

/-- Before the first window and out of a run, sub-step 2 gives the idle value (rules R205, R206). -/
theorem tickCase_duty_of_idle (hp : s.pst = .off ∨ s.pst = .prime) (ht : s.tickCase = .next t) :
    t.duty = s.cfg.idleDuty := by
  rcases tickCase_next ht with ⟨hplay, -⟩ | ⟨-, -, rfl⟩ | ⟨-, -, rfl⟩ | ⟨hwait, -⟩ | ⟨hwait, -⟩ | ⟨hwait, -⟩ | ⟨-, rfl⟩
  · simp [hplay] at hp
  · rfl
  · rfl
  · simp [hwait] at hp
  · simp [hwait] at hp
  · simp [hwait] at hp
  · rfl

/-- A tick of a block that does not play gives the idle value. -/
theorem periodBoundary_duty_of_idle (h : s.pst = .off ∨ (s.pst = .prime ∧ s.pq = []))
    (ht : periodBoundary s = .next t) : t.duty = s.cfg.idleDuty := by
  obtain ⟨y, hy, -, -, hduty, -⟩ := periodBoundary_tickCase ht
  rw [acquire_of_nothing_ready (h.imp_right And.right)] at hy
  exact hduty.trans (tickCase_duty_of_idle (h.imp_right And.left) hy)

/-- A turn of a block that does not play leaves the idle value, or leaves `DUTY` and takes no tick. -/
theorem takeTurn_duty_of_idle (h : s.pst = .off ∨ (s.pst = .prime ∧ s.pq = [])) (ht : takeTurn u s = .next t) :
    t.duty = s.cfg.idleDuty ∨ (t.duty = s.duty ∧ t.dutyStrobe = s.dutyStrobe) := by
  by_cases hu : u = .rstEdge true
  · subst hu
    cases ht
    exact .inl rfl
  · rcases takeTurn_agent ht hu with ⟨-, level, n, rfl⟩ | ⟨w, -, hc⟩ | ⟨-, hr⟩ | ⟨-, hb⟩
    · exact .inr ⟨rfl, rfl⟩
    · exact .inr (exec_keeps_sound hc).2
    · exact .inr (refillTurn_keeps_duty hr)
    · exact .inl (periodBoundary_duty_of_idle h hb)

/-- Sub-step 2 of SampleTick, while off (rule R205). -/
theorem tickCase_of_off (h : s.pst = .off) : s.tickCase = .next { s with duty := s.cfg.idleDuty } := by
  simp only [State.tickCase, h]

/-- A tick out of a run emits the idle value (rule R205). -/
theorem sampleTick_of_off (h : s.pst = .off) :
    sampleTick s = .next (State.strobe { s with duty := s.cfg.idleDuty }) := by
  simp only [sampleTick, acquire_of_nothing_ready (.inl h), tickCase_of_off h]

end Silence

/-- Settles O48: STOP turns the playback engine off, and no turn of a block that does not play makes another value
`DUTY`. -/
theorem stopSilencesWithinOneTick : Obligations.StopSilencesWithinOneTick := by
  unfold Obligations.StopSilencesWithinOneTick
  refine ⟨fun s hrun => ⟨_, _, exec_stop_of_run hrun, sampleTick_of_off rfl, rfl⟩, fun s t u _ hquiet ht => ?_⟩
  have hcase : t.duty = s.cfg.idleDuty ∨ (t.duty = s.duty ∧ t.dutyStrobe = false) :=
    takeTurn_duty_of_idle (s := (present u s).beginStep) hquiet ht
  rcases hcase with hidle | ⟨hheld, hnone⟩
  · exact ⟨fun _ => hidle, fun _ => hidle⟩
  · exact ⟨fun hstrobe => by simp [hnone] at hstrobe, fun hidle => hheld.trans hidle⟩

/-! ## The transition table (rule R179) -/

section Modes

variable {s t : State} {u : Turn}

/-- The table has no row for a turn that is none of its steps. -/
theorem nextModes_of_no_row (hreset : u ≠ .rstEdge true) (hstart : isCommand .start u = false)
    (hstop : isCommand .stop u = false) (htick : isTick u s = false)
    (hdone : u = .refill → s.sst = .stopping → s.refillDoneEnabled = false) :
    nextModes u s = (s.sst, s.pst) := by
  have hdone' : s.sst = .stopping → (decide (u = .refill) && s.refillDoneEnabled) = false := fun hs => by
    by_cases hu : u = .refill
    · simp [hdone hu hs]
    · simp [hu]
  unfold nextModes
  cases hs : s.sst <;> simp [hreset, hstart, hstop, htick, hdone', hs]

/-- While `rst = 1` only a reset edge moves the modes (rule R270). -/
theorem nextModes_of_rst (hreset : u ≠ .rstEdge true) (hrst : s.rst = true) : nextModes u s = (s.sst, s.pst) := by
  simp [nextModes, hreset, hrst]

/-! ### Commands -/

/-- No command but START and STOP moves a mode. -/
theorem exec_keeps_modes {i : Instr} (hstart : i ≠ .start) (hstop : i ≠ .stop) (ht : exec i s = .next t) :
    (t.sst, t.pst) = (s.sst, s.pst) := by
  cases i with
  | start => exact absurd rfl hstart
  | stop => exact absurd rfl hstop
  | vfreq | poll | mode =>
    simp only [exec, execVfreq, execPoll, execMode] at ht
    split_ifs at ht <;> cases ht <;> rfl
  | nop | fxset | rdstat | clrerr | reserved9 | reservedA | reservedB | reservedC | reservedD | reservedE
  | reservedF => cases ht; rfl

/-- The row of START: from idle, with `CFGERR = 0` (rule R162). -/
theorem exec_start_modes {w : Word32} (hw : decode w = .start) (hrst : s.rst = false)
    (ht : exec .start s = .next t) : (t.sst, t.pst) = nextModes (.command w) s := by
  have hstart : isCommand .start (.command w) = true := decide_eq_true hw
  have hstop : isCommand .stop (.command w) = false := by simp [isCommand, hw]
  have htick : isTick (.command w) s = false := rfl
  cases herr : s.cfg.cfgErr with
  | true =>
    rw [exec_start_of_cfgErr herr] at ht
    cases ht
    cases hs : s.sst <;> simp [nextModes, hrst, hs, hstop, htick, herr]
  | false =>
    by_cases hidle : s.sst = .idle
    · rw [exec_start_of_idle herr hidle] at ht
      cases ht
      simp [nextModes, hrst, hidle, hstart, herr]
    · rw [exec_start_of_not_idle herr hidle] at ht
      cases ht
      cases hs : s.sst with
      | idle => exact absurd hs hidle
      | run => simp [nextModes, hrst, hs, hstop, htick]
      | stopping => simp [nextModes, hrst, hs]

/-- The row of STOP: from a run (rule R164). -/
theorem exec_stop_modes {w : Word32} (hw : decode w = .stop) (hrst : s.rst = false)
    (ht : exec .stop s = .next t) : (t.sst, t.pst) = nextModes (.command w) s := by
  have hstart : isCommand .start (.command w) = false := by simp [isCommand, hw]
  have hstop : isCommand .stop (.command w) = true := decide_eq_true hw
  by_cases hrun : s.sst = .run
  · rw [exec_stop_of_run hrun] at ht
    cases ht
    simp [nextModes, hrst, hrun, hstop]
  · rw [exec_stop_of_not_run hrun] at ht
    cases ht
    cases hs : s.sst with
    | idle => simp [nextModes, hrst, hs, hstart]
    | run => exact absurd hs hrun
    | stopping => simp [nextModes, hrst, hs]

theorem exec_modes {w : Word32} (hrst : s.rst = false) (ht : exec (decode w) s = .next t) :
    (t.sst, t.pst) = nextModes (.command w) s := by
  by_cases hstart : decode w = .start
  · exact exec_start_modes hstart hrst (hstart ▸ ht)
  by_cases hstop : decode w = .stop
  · exact exec_stop_modes hstop hrst (hstop ▸ ht)
  rw [exec_keeps_modes hstart hstop ht,
    nextModes_of_no_row (u := .command w) nofun (decide_eq_false hstart) (decide_eq_false hstop) rfl nofun]

/-! ### The refill engine -/

/-- The row of RefillDone after a STOP; in a run, and in the other refill steps, the modes stay (rules R170, R178). -/
theorem Inv.refillTurn_modes (h : Inv s) (hrst : s.rst = false) (ht : Machine.refillTurn s = .next t) :
    (t.sst, t.pst) = nextModes .refill s := by
  have hnoRow : (s.sst = .stopping → s.refillDoneEnabled = false) → nextModes .refill s = (s.sst, s.pst) :=
    fun hdone => nextModes_of_no_row nofun rfl rfl rfl fun _ => hdone
  rcases refillTurn_next ht with ⟨hen, k, rest, -, rfl⟩ | ⟨-, hen, hsample⟩ | ⟨-, -, hen, rfl⟩ | ⟨-, -, hen, rfl⟩
  · obtain ⟨hrun, -⟩ := refillStartEnabled_iff.mp hen
    rw [hnoRow (by simp [hrun])]
    simp [State.refillStart]
  · obtain ⟨d, -, -, rfl⟩ := refillSample_next hsample
    obtain ⟨-, hroom⟩ := refillSampleEnabled_iff.mp hen
    rw [hnoRow fun _ => by simp [State.refillDoneEnabled, hroom.ne]]
    rfl
  · obtain ⟨hbusy, -⟩ := refillDoneEnabled_iff.mp hen
    cases hs : s.sst with
    | idle =>
      obtain ⟨-, hnot, -⟩ := h.idleIsQuiet hs
      simp [hnot] at hbusy
    | run =>
      rw [hnoRow (by simp [hs])]
      simp [State.refillDone, hs]
    | stopping =>
      obtain ⟨-, hoff, -⟩ := h.stoppingIsQuiet hs
      simp [nextModes, State.refillDone, hrst, hs, hen, hoff]
  · rw [hnoRow fun _ => hen]

/-! ### The playback engine -/

theorem isTick_iff : isTick u s = true ↔ u = .sampleTick ∨ (u = .pwmCycle ∧ s.cfg.dutyMax ≤ s.cnt + 1) := by
  simp [isTick]

/-- A tick is no command, no refill turn and no reset edge. -/
theorem of_isTick (h : isTick u s = true) :
    u ≠ .rstEdge true ∧ u ≠ .refill ∧ isCommand .start u = false ∧ isCommand .stop u = false := by
  rcases isTick_iff.mp h with rfl | ⟨rfl, -⟩ <;> exact ⟨nofun, nofun, rfl, rfl⟩

/-- The emit of the last word ends the window (rule R204). -/
theorem emit_modes (s : State) (v : Nat) :
    ((s.emit v).sst, (s.emit v).pst) = (s.sst, if s.rdIdx + 1 = s.cfg.b then .wait else s.pst) := by
  rcases emit_cases s v with ⟨hlast, heq⟩ | ⟨hmore, heq⟩ <;> rw [heq]
  · simp [hlast]
  · simp [hmore]

/-- Sub-step 2 of SampleTick, while playing: the drain begins the wait (rules R203, R204). -/
theorem tickCase_modes_of_play (hp : s.pst = .play) (ht : s.tickCase = .next t) :
    (t.sst, t.pst) = (s.sst, if s.rdIdx + 1 = s.cfg.b then .wait else .play) := by
  rcases tickCase_next ht with ⟨-, v, -, rfl⟩ | ⟨hother, -⟩ | ⟨hother, -⟩ | ⟨hother, -⟩ | ⟨hother, -⟩ | ⟨hother, -⟩ |
    ⟨hother, -⟩
  · rw [emit_modes, hp]
  all_goals simp [hp] at hother

/-- Sub-step 2 of SampleTick, with nothing to play: the last window ends the run (rules R205, R206, R207). -/
theorem tickCase_modes_of_waiting (hp : s.pst = .prime ∨ s.pst = .wait) (ht : s.tickCase = .next t) :
    (t.sst, t.pst) = if s.lastw then (.idle, .off) else (s.sst, s.pst) := by
  rcases tickCase_next ht with ⟨hplay, -⟩ | ⟨-, hl, rfl⟩ | ⟨-, hl, rfl⟩ | ⟨-, hl, rfl⟩ | ⟨-, hl, -, rfl⟩ |
    ⟨-, hl, -, rfl⟩ | ⟨hoff, -⟩
  · simp [hplay] at hp
  · simp [hl]
  · simp [hl]
  · simp [hl]
  · simp [hl]
  · simp [hl]
  · simp [hoff] at hp

/-- The rows of SampleTick (rules R201, R202, R204, R206). -/
theorem Inv.periodBoundary_modes (h : Inv s) (hrst : s.rst = false) (htick : isTick u s = true)
    (ht : Machine.periodBoundary s = .next t) : (t.sst, t.pst) = nextModes u s := by
  obtain ⟨hreset, hrefill, hstart, hstop⟩ := of_isTick htick
  obtain ⟨x, hx, rfl⟩ := periodBoundary_next ht
  obtain ⟨y, hy, rfl⟩ := sampleTick_next hx
  change (y.sst, y.pst) = _
  rcases acquire_cases s with ⟨k, rest, hp, hpq, heq⟩ | ⟨hp, hpq, heq⟩ | ⟨hoff | hplay, heq⟩ <;> rw [heq] at hy
  · have hrun : s.sst = .run := h.playIsRun (by rcases hp with hp | hp <;> simp [hp])
    rw [tickCase_modes_of_play rfl hy]
    rcases hp with hp | hp <;> simp [nextModes, hreset, hrst, hrun, hstop, htick, hp, hpq, eq_comm]
  · have hrun : s.sst = .run := h.playIsRun (by rcases hp with hp | hp <;> simp [hp])
    rw [tickCase_modes_of_waiting hp hy]
    rcases hp with hp | hp <;> simp [nextModes, hreset, hrst, hrun, hstop, htick, hp, hpq]
  · rw [tickCase_of_off hoff] at hy
    cases hy
    cases hs : s.sst <;> simp [nextModes, hreset, hrst, hs, hstart, hstop, htick, hrefill, hoff]
  · have hrun : s.sst = .run := h.playIsRun (by simp [hplay])
    rw [tickCase_modes_of_play hplay hy]
    by_cases hlast : s.rdIdx + 1 = s.cfg.b <;> simp [nextModes, hreset, hrst, hrun, hstop, htick, hplay, hlast]

/-- A clock cycle moves the modes only at the period boundary (rule R214). -/
theorem Inv.pwmCycle_modes (h : Inv s) (hrst : s.rst = false) (ht : Machine.pwmCycle s = .next t) :
    (t.sst, t.pst) = nextModes .pwmCycle s := by
  rcases pwmCycle_next ht with ⟨hinside, rfl⟩ | ⟨hend, hb⟩
  · have htick : isTick .pwmCycle s = false := eq_false_of_ne_true fun htick => by
      rcases isTick_iff.mp htick with hother | ⟨-, hend⟩
      · cases hother
      · omega
    exact (nextModes_of_no_row (u := .pwmCycle) nofun rfl rfl htick nofun).symm
  · exact h.periodBoundary_modes hrst (isTick_iff.mpr (.inr ⟨rfl, Nat.le_of_not_lt hend⟩)) hb

/-- The table, agent by agent. -/
theorem Inv.takeTurn_modes (h : Inv s) (ht : Machine.takeTurn u s = .next t) : (t.sst, t.pst) = nextModes u s := by
  rcases takeTurn_next ht with ⟨rfl, rfl⟩ | ⟨rfl, rfl⟩ | ⟨hrst, hu, rfl⟩ | ⟨hrst, w, rfl, hc⟩ | ⟨hrst, rfl, hr⟩ |
    ⟨hrst, rfl, hb⟩ | ⟨hrst, rfl, hp⟩
  · rfl
  · exact (nextModes_of_no_row (s := s) (u := .rstEdge false) (by simp) rfl rfl rfl nofun).symm
  · exact (nextModes_of_rst (hu true) hrst).symm
  · exact exec_modes hrst hc
  · exact h.refillTurn_modes hrst hr
  · exact h.periodBoundary_modes hrst (isTick_iff.mpr (.inl rfl)) hb
  · exact h.pwmCycle_modes hrst hp

end Modes

/-- Settles O56, agent by agent, from the state the turn is taken in. -/
theorem modesFollowTheTransitionTable : Obligations.ModesFollowTheTransitionTable := by
  unfold Obligations.ModesFollowTheTransitionTable
  exact fun s t u h ht => (h.presented u).takeTurn_modes ht

end Sys2Proof.Safety

/-! PROOF. The statements about playback: the ticks case by case, what can become `DUTY`, and the clock cycles of the
pulse-width stage. -/

namespace Sys2Proof.Safety

open Sys2Proof Sys2Proof.Machine

/-! ## SampleTick, case by case (rules R201 to R209) -/

section Tick

variable {s t : State} {b : BufId}

/-- A read gives the word of a buffer and an index that exist (rules R10, R60). -/
theorem obufRead_eq_some_iff {i v : Nat} :
    s.obufRead b i = some v ↔ s.cfg.hasBuf b = true ∧ i < s.cfg.b ∧ s.wordAt b i = v := by
  simp [State.obufRead, State.obufHas, and_assoc]

/-- Sub-step 1 leaves a window that is being played (rule R201). -/
theorem acquire_of_play (h : s.pst = .play) : s.acquire = s := if_neg (by simp [h])

/-- Sub-step 1 takes the filled buffer at the head of `PQ` (rule R202). -/
theorem acquire_of_ready {rest : List BufId} (hp : s.pst = .prime ∨ s.pst = .wait) (hpq : s.pq = b :: rest) :
    s.acquire = { s with pq := rest, playBuf := b, rdIdx := 0, bst := s.bst.set b .playing, pst := .play } := by
  simp [State.acquire, hp, hpq]

/-- Sub-step 2, while playing (rule R203). -/
theorem tickCase_of_play {v : Nat} (hp : s.pst = .play) (hread : s.obufRead s.playBuf s.rdIdx = some v) :
    s.tickCase = .next (s.emit v) := by
  simp only [State.tickCase, hp, hread]

/-- Sub-step 2, at the end of the last window (rule R206). -/
theorem tickCase_of_lastWindow (hp : s.pst = .prime ∨ s.pst = .wait) (hl : s.lastw = true) :
    s.tickCase = .next s.goIdle := by
  rcases hp with hp | hp <;> simp [State.tickCase, hp, hl]

/-- Sub-step 2, before the first window (rule R205). -/
theorem tickCase_of_prime (hp : s.pst = .prime) (hl : s.lastw = false) :
    s.tickCase = .next { s with duty := s.cfg.idleDuty } := by
  simp [State.tickCase, hp, hl]

/-- Sub-step 2, with two buffers and none ready (rule R207). -/
theorem tickCase_of_underrun (hp : s.pst = .wait) (hl : s.lastw = false) (hn : s.cfg.nbuf = 2) :
    s.tickCase = .next (s.raise .underrun) := by
  simp [State.tickCase, hp, hl, hn]

/-- Sub-step 2, with one buffer that waits for its refill (rule R209). -/
theorem tickCase_of_pause (hp : s.pst = .wait) (hl : s.lastw = false) (hn : s.cfg.nbuf ≠ 2) :
    s.tickCase = .next s := by
  simp [State.tickCase, hp, hl, hn]

/-- The sub-steps of SampleTick together (rule R201). -/
theorem sampleTick_of_tickCase (h : s.acquire.tickCase = .next t) : sampleTick s = .next t.strobe := by
  simp only [sampleTick, h]

/-- A tick with nothing to take is sub-steps 2 and 3. -/
theorem sampleTick_of_nothing_ready (hnone : s.pst = .off ∨ s.pq = []) (h : s.tickCase = .next t) :
    sampleTick s = .next t.strobe :=
  sampleTick_of_tickCase (by rwa [acquire_of_nothing_ready hnone])

theorem periodBoundary_of_sampleTick (h : sampleTick s = .next t) :
    periodBoundary s = .next { t with cnt := 0, cmp := t.duty } := by
  simp only [periodBoundary, h]

/-- Of two values set for one buffer the second stays. -/
theorem PerBuf_set_set {α : Type} (p : PerBuf α) (b : BufId) (x y : α) : (p.set b x).set b y = p.set b y := by
  cases b <;> rfl

end Tick

/-- Settles O39, from the two cases of the emit. -/
theorem playingTickEmitsAndDrains : Obligations.PlayingTickEmitsAndDrains := by
  unfold Obligations.PlayingTickEmitsAndDrains
  intro s hp hbuf hrd
  have hread := obufRead_eq_some_iff.mpr ⟨hbuf, hrd, rfl⟩
  have htick := sampleTick_of_tickCase (by rw [acquire_of_play hp]; exact tickCase_of_play hp hread)
  rcases emit_cases s (s.wordAt s.playBuf s.rdIdx) with ⟨hlast, heq⟩ | ⟨hmore, heq⟩ <;> rw [heq] at htick
  · exact ⟨_, htick, rfl, rfl, rfl, fun hlt => absurd hlast hlt.ne, fun _ => ⟨rfl, rfl, rfl, rfl, rfl, rfl⟩⟩
  · exact ⟨_, htick, rfl, rfl, rfl, fun _ => ⟨rfl, rfl, rfl⟩, fun hlast => absurd hlast hmore⟩

/-- Settles O40: sub-step 1 takes the buffer and sub-step 2 of the same tick emits its word 0, with the drain where
that word is the last. -/
theorem handOffLosesNoTick : Obligations.HandOffLosesNoTick := by
  unfold Obligations.HandOffLosesNoTick
  intro s b rest hp hpq hbuf hb
  have htaken := acquire_of_ready hp hpq
  have hread : s.acquire.obufRead s.acquire.playBuf s.acquire.rdIdx = some (s.wordAt b 0) := by
    rw [htaken]
    exact obufRead_eq_some_iff.mpr ⟨hbuf, hb, rfl⟩
  have htick := sampleTick_of_tickCase (tickCase_of_play (by rw [htaken]) hread)
  rcases emit_cases s.acquire (s.wordAt b 0) with ⟨hlast, heq⟩ | ⟨hmore, heq⟩ <;> rw [heq, htaken] at htick
  · have hone : 1 = s.cfg.b := by simpa [htaken] using hlast
    exact ⟨_, htick, rfl, rfl, rfl, rfl, fun hlt => absurd hone hlt.ne,
      fun _ => ⟨rfl, rfl, PerBuf_set_set s.bst b .playing .empty, rfl, rfl⟩, rfl, rfl⟩
  · have hmany : 1 ≠ s.cfg.b := by simpa [htaken] using hmore
    exact ⟨_, htick, rfl, rfl, rfl, rfl, fun _ => ⟨rfl, rfl, rfl, rfl, rfl⟩, fun hone => absurd hone.symm hmany,
      rfl, rfl⟩

/-- Settles O41, in its two cases: out of a run, and before the first window. -/
theorem notPlayingEmitsTheIdleValue : Obligations.NotPlayingEmitsTheIdleValue := by
  unfold Obligations.NotPlayingEmitsTheIdleValue
  rintro s (hoff | ⟨hprime, hpq, hl⟩)
  · exact ⟨_, sampleTick_of_off hoff, rfl, rfl, rfl, rfl⟩
  · exact ⟨_, sampleTick_of_nothing_ready (.inr hpq) (tickCase_of_prime hprime hl), rfl, rfl, rfl, rfl⟩

/-- Settles O42: the state reached keeps the invariants, so it is quiet as I3 says of idle. -/
theorem endOfLastWindowReturnsToIdle : Obligations.EndOfLastWindowReturnsToIdle := by
  unfold Obligations.EndOfLastWindowReturnsToIdle
  intro s hp hpq hl
  refine ⟨_, sampleTick_of_nothing_ready (.inr hpq) (tickCase_of_lastWindow hp hl), rfl, rfl, rfl, rfl, fun h => ?_,
    rfl, rfl⟩
  obtain ⟨-, hbusy, hrq, hpq', -, hpoll, hb0, hb1⟩ := (h.goIdle hpq hp hl).idleIsQuiet rfl
  refine ⟨hbusy, hrq, hpq', hpoll, fun b => ?_⟩
  cases b with
  | b0 => exact hb0
  | b1 => exact hb1

/-- Settles O43: the tick is the raise of UNDERRUN. -/
theorem underrunTickHoldsTheDuty : Obligations.UnderrunTickHoldsTheDuty := by
  unfold Obligations.UnderrunTickHoldsTheDuty
  intro s hp hpq hl hn
  exact ⟨_, sampleTick_of_nothing_ready (.inr hpq) (tickCase_of_underrun hp hl hn), rfl, rfl, rfl, rfl, rfl, rfl⟩

/-- Settles O44: the tick is the strobe alone. -/
theorem singleBufferPauseIsNoError : Obligations.SingleBufferPauseIsNoError := by
  unfold Obligations.SingleBufferPauseIsNoError
  intro s hp hpq hl hn
  exact ⟨_, sampleTick_of_nothing_ready (.inr hpq) (tickCase_of_pause hp hl (by omega)), rfl, rfl, rfl, rfl⟩

/-! ## What can become `DUTY` (rules R200, R210) -/

section Duty

variable {s t : State} {u : Turn}

/-- `d` is the duty value of `s`, the idle value or a word of a buffer that exists (rule R210 G4). -/
def isNextDuty (s : State) (d : Nat) : Prop :=
  d = s.duty ∨ d = s.cfg.idleDuty ∨ ∃ b i, s.cfg.hasBuf b = true ∧ i < s.cfg.b ∧ d = s.wordAt b i

/-- Sub-step 2 of SampleTick emits a word, gives the idle value or holds (rule R201). -/
theorem tickCase_isNextDuty (ht : s.tickCase = .next t) : isNextDuty s t.duty := by
  rcases tickCase_next ht with ⟨-, v, hread, rfl⟩ | ⟨-, -, rfl⟩ | ⟨-, -, rfl⟩ | ⟨-, -, rfl⟩ | ⟨-, -, -, rfl⟩ |
    ⟨-, -, -, rfl⟩ | ⟨-, rfl⟩
  · obtain ⟨hbuf, hrd, rfl⟩ := obufRead_eq_some_iff.mp hread
    exact .inr (.inr ⟨_, _, hbuf, hrd, emit_duty _ _⟩)
  · exact .inr (.inl rfl)
  · exact .inr (.inl rfl)
  · exact .inr (.inl rfl)
  · exact .inl rfl
  · exact .inl rfl
  · exact .inr (.inl rfl)

/-- Taking a filled buffer offers no other values: it leaves `DUTY` and the words (rule R202). -/
theorem isNextDuty_acquire (s : State) : isNextDuty s.acquire = isNextDuty s := by
  funext d
  simp only [isNextDuty, acquire_duty, acquire_cfg, acquire_wordAt]

theorem periodBoundary_isNextDuty (ht : periodBoundary s = .next t) : isNextDuty s t.duty := by
  obtain ⟨y, hy, -, -, hduty, -⟩ := periodBoundary_tickCase ht
  rw [hduty, ← isNextDuty_acquire]
  exact tickCase_isNextDuty hy

/-- A turn but a reset edge leaves `DUTY` and its strobe, or is a sample tick (rule R200). -/
theorem takeTurn_keeps_duty_or_ticks (ht : takeTurn u s = .next t) (hu : u ≠ .rstEdge true) :
    (t.duty = s.duty ∧ t.dutyStrobe = s.dutyStrobe) ∨ (t.dutyStrobe = true ∧ isNextDuty s t.duty) := by
  rcases takeTurn_agent ht hu with ⟨-, level, n, rfl⟩ | ⟨w, -, hc⟩ | ⟨-, hr⟩ | ⟨-, hb⟩
  · exact .inl ⟨rfl, rfl⟩
  · exact .inl (exec_keeps_sound hc).2
  · exact .inl (refillTurn_keeps_duty hr)
  · obtain ⟨y, -, -, -, -, hstrobe⟩ := periodBoundary_tickCase hb
    exact .inr ⟨hstrobe, periodBoundary_isNextDuty hb⟩

end Duty

/-- Settles O45, agent by agent: only a reset edge and a tick write `DUTY`, and only a tick strobes it. -/
theorem dutyChangesOnlyAtATick : Obligations.DutyChangesOnlyAtATick := by
  unfold Obligations.DutyChangesOnlyAtATick
  intro s t u ht
  by_cases hu : u = .rstEdge true
  · subst hu
    cases ht
    exact ⟨fun _ => .inr rfl, nofun⟩
  · have hcase : (t.duty = s.duty ∧ t.dutyStrobe = false) ∨ (t.dutyStrobe = true ∧ isNextDuty s t.duty) :=
      takeTurn_keeps_duty_or_ticks (s := (present u s).beginStep) ht hu
    rcases hcase with ⟨hheld, hnone⟩ | ⟨hstrobe, hnext⟩
    · exact ⟨fun hne => absurd hheld hne, fun hstrobe => by simp [hnone] at hstrobe⟩
    · exact ⟨fun _ => .inl hstrobe, fun _ => hnext⟩

/-! ## The clock cycles of a sample period (rule R214) -/

section Period

variable {s t : State}

/-- The pin is at `PWM_POL` while `CNT` is below `CMP` (rule R214). -/
theorem pwmOut_eq_pwmPol_iff (s : State) : s.pwmOut = s.cfg.pwmPol ↔ s.cnt < s.cmp := by
  unfold State.pwmOut
  split <;> simp [*]

/-- Out of reset a cycle inside the period counts. -/
theorem step_pwmCycle_of_inside (hrst : s.rst = false) (hinside : s.cnt + 1 < s.cfg.dutyMax) :
    step (present .pwmCycle s) =
      .next { s with cnt := s.cnt + 1, freeCtr := s.freeCtr + 1, out := Pulses.none } :=
  (takeTurn_pwmCycle (s := (present .pwmCycle s).beginStep) hrst).trans (if_pos hinside)

/-- `k` cycles inside the period add `k` to the count and to the model's own counter, and leave everything else but the
pulses. -/
theorem runTurns_pwmCycles (k : Nat) (hrst : s.rst = false) (hinside : s.cnt + k < s.cfg.dutyMax) :
    ∃ p, runTurns (List.replicate k .pwmCycle) s =
      .next { s with cnt := s.cnt + k, freeCtr := s.freeCtr + k, out := p } := by
  induction k generalizing s with
  | zero => exact ⟨s.out, rfl⟩
  | succ k ih =>
    obtain ⟨p, hp⟩ := ih (s := { s with cnt := s.cnt + 1, freeCtr := s.freeCtr + 1, out := Pulses.none }) hrst
      (by change s.cnt + 1 + k < s.cfg.dutyMax; omega)
    refine ⟨p, ?_⟩
    simp only [List.replicate_succ, runTurns, step_pwmCycle_of_inside hrst (by omega), hp]
    simp only [Nat.add_assoc, Nat.add_comm 1 k]

/-! SampleTick reads neither `CNT` nor the model's own counter: each part of it commutes with setting the two. -/

/-- The state with other values of `CNT` and of the free values' counter. -/
def withClock (s : State) (c n : Nat) : State := { s with cnt := c, freeCtr := n }

theorem acquire_withClock (s : State) (c n : Nat) : (withClock s c n).acquire = withClock s.acquire c n := by
  have hpq : (withClock s c n).pq = s.pq := rfl
  simp only [State.acquire, apply_ite (withClock · c n), hpq]
  cases s.pq <;> rfl

theorem emit_withClock (s : State) (c n v : Nat) : (withClock s c n).emit v = withClock (s.emit v) c n := by
  simp only [State.emit, apply_ite (withClock · c n)]
  rfl

theorem tickCase_withClock (c n : Nat) (ht : s.tickCase = .next t) :
    (withClock s c n).tickCase = .next (withClock t c n) := by
  rcases tickCase_next ht with ⟨hp, v, hread, rfl⟩ | ⟨hp, hl, rfl⟩ | ⟨hp, hl, rfl⟩ | ⟨hp, hl, rfl⟩ | ⟨hp, hl, hn, rfl⟩ |
    ⟨hp, hl, hn, rfl⟩ | ⟨hp, rfl⟩
  · rw [← emit_withClock]
    exact tickCase_of_play hp hread
  · exact tickCase_of_lastWindow (.inl hp) hl
  · exact tickCase_of_prime hp hl
  · exact tickCase_of_lastWindow (.inr hp) hl
  · exact tickCase_of_underrun hp hl hn
  · exact tickCase_of_pause hp hl hn
  · exact tickCase_of_off hp

/-- The period boundary sets `CNT`, whatever it was. -/
theorem periodBoundary_withClock (c n : Nat) (ht : periodBoundary s = .next t) :
    periodBoundary (withClock s c n) = .next { t with freeCtr := n } := by
  obtain ⟨x, hx, rfl⟩ := periodBoundary_next ht
  obtain ⟨y, hy, rfl⟩ := sampleTick_next hx
  refine periodBoundary_of_sampleTick (t := (withClock y c n).strobe) (sampleTick_of_tickCase ?_)
  rw [acquire_withClock]
  exact tickCase_withClock c n hy

/-- Out of reset the last cycle of the period does what a sample-tick turn does from any earlier cycle of it. -/
theorem step_pwmCycle_of_last {c n : Nat} (p : Pulses) (hrst : s.rst = false) (hlast : ¬ c + 1 < s.cfg.dutyMax)
    (ht : periodBoundary (present .sampleTick s).beginStep = .next t) :
    step (present .pwmCycle { s with cnt := c, freeCtr := n, out := p }) = .next { t with freeCtr := n + 1 } :=
  calc step (present .pwmCycle { s with cnt := c, freeCtr := n, out := p })
    _ = pwmCycle (withClock (present .sampleTick s).beginStep c (n + 1)) := takeTurn_pwmCycle hrst
    _ = periodBoundary (withClock (present .sampleTick s).beginStep c (n + 1)) := if_neg hlast
    _ = .next { t with freeCtr := n + 1 } := periodBoundary_withClock c (n + 1) ht

end Period

/-- Settles O50: within the period the cycles only count, and the pin compares the count with `CMP`. -/
theorem pwmPeriodIsHighForCmpCycles : Obligations.PwmPeriodIsHighForCmpCycles := by
  unfold Obligations.PwmPeriodIsHighForCmpCycles
  intro s _ hrst hcnt k hk
  obtain ⟨p, hrun⟩ := runTurns_pwmCycles k hrst (by omega)
  simp only [hcnt, Nat.zero_add] at hrun
  exact ⟨_, hrun, rfl, rfl, rfl, pwmOut_eq_pwmPol_iff _⟩

/-- Settles O51: all cycles left but one count, and the last is the tick, which reads nothing they changed. -/
theorem sampleTickTurnIsTheRestOfThePeriod : Obligations.SampleTickTurnIsTheRestOfThePeriod := by
  unfold Obligations.SampleTickTurnIsTheRestOfThePeriod
  intro s h hrst
  obtain ⟨k, hk⟩ : ∃ k, s.cfg.dutyMax = s.cnt + k + 1 := Nat.exists_eq_add_of_lt h.pwmRange.1
  obtain ⟨v, hv⟩ := periodBoundary_completes (h.presented .sampleTick)
  have htick : step (present .sampleTick s) = .next v :=
    (takeTurn_sampleTick (s := (present .sampleTick s).beginStep) hrst).trans hv
  obtain ⟨p, hrun⟩ := runTurns_pwmCycles k hrst (by omega)
  have hlast := step_pwmCycle_of_last (c := s.cnt + k) (n := s.freeCtr + k) p hrst (by omega) hv
  refine ⟨{ v with freeCtr := s.freeCtr + k + 1 }, v, ?_, htick, rfl⟩
  rw [show s.cfg.dutyMax - s.cnt = k + 1 by omega, List.replicate_succ', runTurns_append _ hrun]
  simp only [runTurns, hlast]

end Sys2Proof.Safety

/-! PROOF. The statements about the system commands: NOP, RDSTAT, CLRERR and the reserved opcodes. -/

namespace Sys2Proof.Safety

open Sys2Proof Sys2Proof.Machine

section SystemCommands

variable (s : State)

/-! ## NOP (rule R225) -/

theorem decode_eq_nop {w : Word32} (h : opField w = 0) : decode w = .nop := by
  simp [decode, h]

theorem exec_nop : exec .nop s = .next s := rfl

/-! ## RDSTAT (rule R226) -/

theorem exec_rdstat : exec .rdstat s = .next { s with out := { s.out with rsp := some s.status } } := rfl

/-! ## CLRERR (rule R227) -/

theorem decode_clrerr_word (mask : BitVec 3) : decode (0x80000000#32 ||| mask.zeroExtend 32) = .clrerr mask := by
  have hword : encode (.clrerr mask) = 0x80000000#32 ||| mask.zeroExtend 32 := assemble_operand (by decide) 8 mask
  rw [← hword, decode_encode]

theorem exec_clrerr (mask : BitVec 3) :
    exec (.clrerr mask) s = .next { s with
      underrun := s.underrun && !mask.getLsbD 0, freqSat := s.freqSat && !mask.getLsbD 1,
      cmdErr := s.cmdErr && !mask.getLsbD 2 } := rfl

/-! ## The reserved opcodes (rules R86, R228) -/

/-- The rows from opcode 0x9 on are the reserved ones, and each refuses its word. -/
theorem exec_of_reserved {i : Instr} (h : 9 ≤ i.opcode.toNat) : exec i s = .next (s.raise .cmdErr) := by
  cases i with
  | reserved9 | reservedA | reservedB | reservedC | reservedD | reservedE | reservedF => rfl
  | nop | vfreq | fxset | start | stop | poll | mode | rdstat | clrerr => simp [Instr.opcode] at h

/-- What a reserved row changes: the flag is set, and with it put back the state is the one before. -/
theorem exec_of_reserved_frame {i : Instr} (h : 9 ≤ i.opcode.toNat) :
    ∃ t, exec i s = .next t ∧ t.cmdErr = true ∧ { t with cmdErr := s.cmdErr } = s :=
  ⟨_, exec_of_reserved s h, rfl, rfl⟩

end SystemCommands

/-- Settles O9: every word with opcode 0 decodes to NOP. -/
theorem nopChangesNothing : Obligations.NopChangesNothing := by
  unfold Obligations.NopChangesNothing
  refine fun s => ⟨exec_nop s, fun w hop => ?_⟩
  rw [decode_eq_nop hop, exec_nop]

/-- Settles O16, from the command's one write, to the response port. -/
theorem rdstatAnswersTheStatusWord : Obligations.RdstatAnswersTheStatusWord := by
  unfold Obligations.RdstatAnswersTheStatusWord
  exact ⟨decode_encode .rdstat, fun s => ⟨_, exec_rdstat s, rfl, rfl, rfl, rfl⟩⟩

/-- Settles O18, from the word's fields and the three flags the command writes. -/
theorem clrerrClearsTheSelectedFlags : Obligations.ClrerrClearsTheSelectedFlags := by
  unfold Obligations.ClrerrClearsTheSelectedFlags
  exact fun mask s => ⟨decode_clrerr_word mask, _, exec_clrerr s mask, rfl, rfl, rfl, rfl⟩

/-- Settles O19: the seven rows have the opcodes from 0x9 on, and decoding keeps the opcode. -/
theorem reservedOpcodesOnlyRaiseCmderr : Obligations.ReservedOpcodesOnlyRaiseCmderr := by
  unfold Obligations.ReservedOpcodesOnlyRaiseCmderr
  refine ⟨fun i s hi => exec_of_reserved_frame s ?_, fun w s hop => exec_of_reserved_frame s ?_⟩
  · rcases hi with rfl | rfl | rfl | rfl | rfl | rfl | rfl <;> decide
  · rwa [opcode_decode]

end Sys2Proof.Safety

/-! PROOF. The statements about exceptions: what raising an error does, the causes of CMDERR, and the order of the turns
of one clock cycle. -/

namespace Sys2Proof.Safety

open Sys2Proof Sys2Proof.Machine

/-! ## Refused commands (rules R228, R245) -/

section Refusals

variable {i : Instr} {s t : State}

/-- The four causes of CMDERR (rule R245): a reserved opcode, VFREQ for a voice that does not exist, MODE outside idle,
and START where `CFGERR = 1`. -/
def isRefused (i : Instr) (s : State) : Prop :=
  9 ≤ i.opcode.toNat ∨ (∃ ch freq, i = .vfreq ch freq ∧ s.cfg.nch ≤ ch.toNat) ∨
    (∃ auto, i = .mode auto ∧ s.sst ≠ .idle) ∨ (i = .start ∧ s.cfg.cfgErr = true)

theorem isRefused_vfreq {ch : BitVec 4} {freq : FreqWord} (h : s.cfg.nch ≤ ch.toNat) : isRefused (.vfreq ch freq) s :=
  .inr (.inl ⟨ch, freq, rfl, h⟩)

theorem isRefused_mode {auto : BitVec 1} (h : s.sst ≠ .idle) : isRefused (.mode auto) s :=
  .inr (.inr (.inl ⟨auto, rfl, h⟩))

theorem isRefused_start (h : s.cfg.cfgErr = true) : isRefused .start s := .inr (.inr (.inr ⟨rfl, h⟩))

/-- A command with one of the four causes raises CMDERR and does nothing else. -/
theorem exec_of_isRefused (h : isRefused i s) : exec i s = .next (s.raise .cmdErr) := by
  rcases h with hop | ⟨ch, freq, rfl, hch⟩ | ⟨auto, rfl, hrun⟩ | ⟨rfl, herr⟩
  · exact exec_of_reserved s hop
  · exact exec_vfreq_of_ge freq hch
  · exact exec_mode_of_not_idle auto hrun
  · exact exec_start_of_cfgErr herr

/-- A command with none of the four causes does not set CMDERR. -/
theorem exec_keeps_cmdErr_clear (h : ¬ isRefused i s) (hclear : s.cmdErr = false) (ht : exec i s = .next t) :
    t.cmdErr = false := by
  cases i with
  | vfreq ch freq =>
    rw [exec_vfreq_of_lt freq (lt_of_not_ge (mt isRefused_vfreq h))] at ht
    cases ht
    exact hclear
  | mode auto =>
    rw [exec_mode_of_idle auto (not_not.mp (mt isRefused_mode h))] at ht
    cases ht
    exact hclear
  | start =>
    have hok : s.cfg.cfgErr = false := eq_false_of_ne_true (mt isRefused_start h)
    by_cases hidle : s.sst = .idle
    · rw [exec_start_of_idle hok hidle] at ht
      cases ht
      exact hclear
    · rw [exec_start_of_not_idle hok hidle] at ht
      cases ht
      exact hclear
  | stop | poll =>
    simp only [exec, execStop, execPoll] at ht
    split at ht <;> cases ht <;> exact hclear
  | clrerr mask =>
    cases ht
    exact congrArg (· && _) hclear
  | nop | fxset | rdstat =>
    cases ht
    exact hclear
  | reserved9 | reservedA | reservedB | reservedC | reservedD | reservedE | reservedF =>
    exact absurd (.inl (by decide)) h

/-- With an empty mask CLRERR clears nothing (rule R227). -/
theorem exec_clrerr_zero (s : State) : exec (.clrerr 0) s = .next s := by
  simp [exec_clrerr]

/-- `exec` has one outcome: a command that does nothing leaves no other state. -/
theorem eq_of_exec_self (hself : exec i s = .next s) (ht : exec i s = .next t) : t = s :=
  Host.Outcome.next.inj (ht.symm.trans hself)

end Refusals

/-- Settles O22: a command with one of the causes is the raise of CMDERR, and one with none leaves the flag clear. -/
theorem cmderrHasFourCauses : Obligations.CmderrHasFourCauses := by
  unfold Obligations.CmderrHasFourCauses
  refine ⟨fun w => by rw [← encode_decode, decode_encode], fun i s hclear => ?_⟩
  obtain ⟨t, ht⟩ := exec_completes i s
  have hset : isRefused i s → t = s.raise .cmdErr := fun h =>
    Host.Outcome.next.inj (ht.symm.trans (exec_of_isRefused h))
  have hcause : t.cmdErr = true → isRefused i s := fun hflag => by
    by_contra hnone
    simp [exec_keeps_cmdErr_clear hnone hclear ht] at hflag
  refine ⟨t, ht, ⟨hcause, fun h => ?_⟩, fun hflag => ?_, ?_, ?_, ?_, ?_⟩
  · rw [hset h]
    rfl
  · rw [hset (hcause hflag), ← hclear]
    rfl
  · rintro ⟨rfl, hok, hrun⟩
    exact eq_of_exec_self (exec_start_of_not_idle hok hrun) ht
  · rintro ⟨rfl, hidle⟩
    exact eq_of_exec_self (exec_stop_of_not_run (by simp [hidle])) ht
  · rintro ⟨rfl, hrq⟩
    exact eq_of_exec_self (exec_poll_of_not_waiting (.inr hrq)) ht
  · rintro rfl
    exact eq_of_exec_self (exec_clrerr_zero s) ht

/-- Settles O20, from what raising each of the three flags writes. -/
theorem raiseSetsItsFlagAndNothingElse : Obligations.RaiseSetsItsFlagAndNothingElse := by
  unfold Obligations.RaiseSetsItsFlagAndNothingElse
  intro s
  rw [raise_underrun_eq, raise_freqSat_eq, raise_cmdErr_eq]
  exact ⟨⟨rfl, rfl, rfl, rfl⟩, ⟨rfl, rfl⟩, rfl, rfl⟩

/-! ## The turns of one clock cycle (rule R252, log 19) -/

section SameCycle

variable {s t : State}

/-- A list of one turn is that turn, taken in the state it begins in. -/
theorem runTurns_singleton {u : Turn} (h : takeTurn u (present u s).beginStep = .next t) :
    runTurns [u] s = .next t := by
  have hstep : step (present u s) = .next t := h
  simp only [runTurns, hstep]

/-- The state the tick leaves that plays the last word of a window: that word is the duty value of the new period, and
the buffer is drained (rules R204, R214). -/
def afterLastWord (s : State) : State :=
  { s.drain with
    duty := s.wordAt s.playBuf s.rdIdx, cmp := s.wordAt s.playBuf s.rdIdx, cnt := 0,
    out := { s.drain.out with dutyStrobe := true } }

theorem periodBoundary_of_lastWord (hp : s.pst = .play) (hbuf : s.cfg.hasBuf s.playBuf = true)
    (hlast : s.rdIdx + 1 = s.cfg.b) : periodBoundary s = .next (afterLastWord s) := by
  have hread : s.obufRead s.playBuf s.rdIdx = some (s.wordAt s.playBuf s.rdIdx) :=
    obufRead_eq_some_iff.mpr ⟨hbuf, by omega, rfl⟩
  have htick := tickCase_of_play hp hread
  rw [State.emit, if_pos hlast] at htick
  exact periodBoundary_of_sampleTick (sampleTick_of_tickCase (by rw [acquire_of_play hp]; exact htick))

/-- Outside the last window the drain requests the refill of the drained buffer (rule R204). -/
theorem afterLastWord_rq (hrq : s.rq = []) (hl : s.lastw = false) : (afterLastWord s).rq = [s.playBuf] := by
  simp [afterLastWord, hrq, hl]

/-- A voice with a pending frequency is counted as sounding (rule R120). -/
theorem countP_pendingActive_ne_zero (h : ∃ v ∈ s.voices, v.vfreq ≠ 0) :
    s.voices.countP Voice.pendingActive ≠ 0 := by
  obtain ⟨v, hv, hfreq⟩ := h
  have hpending : v.pendingActive = true := by simpa [Voice.pendingActive] using hfreq
  exact (List.countP_pos_iff.mpr ⟨v, hv, hpending⟩).ne'

/-- A refill turn with a sounding voice begins the fill it is enabled for, in every state (rule R170). -/
theorem runTurns_refill_of_sounding {k : BufId} {rest : List BufId} (hrst : s.rst = false)
    (hen : s.refillStartEnabled = true) (hrq : s.rq = k :: rest)
    (hsound : s.voices.countP Voice.pendingActive ≠ 0) :
    runTurns [.refill] s = .next (refillBegun (present .refill s).beginStep k rest) := by
  refine runTurns_refill hrst ?_
  rw [← refillStart_of_sounding (s := (present .refill s).beginStep) k rest hsound]
  exact refillTurn_of_startEnabled hen hrq

/-- In a run with no refill in progress STOP goes idle at once (rule R164). -/
theorem runTurns_stop_of_no_refill {w : Word32} (hw : decode w = .stop) (hrst : s.rst = false) (hrun : s.sst = .run)
    (hbusy : s.fillBusy = false) :
    ∃ t, runTurns [.command w] s = .next t ∧ t.sst = .idle ∧ t.pst = .off ∧ t.pq = [] := by
  have hturn := takeTurn_command (s := (present (.command w) s).beginStep) w ((cmdReady_iff _).mpr hrst)
  rw [hw, exec_stop_of_run (s := (present (.command w) s).beginStep) hrun] at hturn
  exact ⟨_, runTurns_singleton hturn, if_neg (ne_true_of_eq_false hbusy), rfl, rfl⟩

end SameCycle

/-- Settles O60: the drain requests the buffer that the refill turn after it takes, and RefillDone ends the refill that
STOP would otherwise wait for. -/
theorem sameCycleOrderExamples : Obligations.SameCycleOrderExamples := by
  unfold Obligations.SameCycleOrderExamples
  refine ⟨fun s hrst hrun hp hbuf hlast hrq hbusy hl hauto hvoice => ?_, fun s w hrst hrun hdone hw => ?_⟩
  · have hdrain : runTurns [.sampleTick] s = .next (afterLastWord (present .sampleTick s).beginStep) :=
      runTurns_singleton <| (takeTurn_sampleTick (s := (present .sampleTick s).beginStep) hrst).trans
        (periodBoundary_of_lastWord (s := (present .sampleTick s).beginStep) hp hbuf hlast)
    have hrequest : (afterLastWord (present .sampleTick s).beginStep).rq = [s.playBuf] := afterLastWord_rq hrq hl
    have hen : (afterLastWord (present .sampleTick s).beginStep).refillStartEnabled = true :=
      refillStartEnabled_iff.mpr ⟨hrun, hbusy, by simp [hrequest], hl, .inl hauto⟩
    have hfill := runTurns_refill_of_sounding (s := afterLastWord (present .sampleTick s).beginStep) hrst hen hrequest
      (countP_pendingActive_ne_zero hvoice)
    exact ⟨_, (runTurns_append [.refill] hdrain).trans hfill, rfl, rfl, PerBuf_get_set_same _ _ _, rfl⟩
  · obtain ⟨hbusy, hfull⟩ := refillDoneEnabled_iff.mp hdone
    have hover := runTurns_refillDone hrst hbusy hfull hrun
    change ∃ t, runTurns ([.refill] ++ [.command w]) s = .next t ∧ _
    rw [runTurns_append _ hover]
    exact runTurns_stop_of_no_refill hw hrst hrun rfl

end Sys2Proof.Safety

/-! PROOF. The statements about reset and hazards: what passes while `rst = 1`, the block right after reset, and the
refill deadline. -/

namespace Sys2Proof.Safety

open Sys2Proof Sys2Proof.Machine

/-! ## While in reset and right after it (rules R270, R271) -/

/-- While `rst = 1` the turn of every agent but the clock edges with `rst` passes (rule R270, log 11). -/
theorem takeTurn_of_rst {s : State} {u : Turn} (hrst : s.rst = true) (hu : ∀ level, u ≠ .rstEdge level) :
    takeTurn u s = .next s := by
  cases u with
  | rstEdge level => exact absurd rfl (hu level)
  | command w => simp [takeTurn, State.cmdReady, hrst]
  | refill | sampleTick | pwmCycle => simp [takeTurn, hrst]

/-- Settles O8: the turn passes in the state the step begins in. -/
theorem nothingIsTakenWhileInReset : Obligations.NothingIsTakenWhileInReset := by
  unfold Obligations.NothingIsTakenWhileInReset
  intro s u hrst hu
  exact ⟨by simp [State.cmdReady, hrst],
    (step_present u s).trans (takeTurn_of_rst (s := { s with freeCtr := s.freeCtr + 1, out := Pulses.none }) hrst hu)⟩

/-- Of the fields of `STATUS` only the default effect flags, `CFGERR` and `AUTO` are not 0 after reset (rule R271). -/
theorem status_resetOf (c : Config) :
    (State.resetOf c).status.toNat = 0x4000 + 4096 * c.fxReset.toNat + 8 * c.cfgErr.toNat := by
  have hsst : SchedState.idle.code.toNat = 0 := rfl
  have hpst : PlayState.off.code.toNat = 0 := rfl
  rw [status_toNat (s := State.resetOf c) (Nat.succ_pos _) (Nat.succ_pos _) (Nat.succ_pos _), toNat_flags c.fxReset]
  simp only [State.resetOf, hsst, hpst, BufId.idx, Bool.toNat_false, Bool.toNat_true, List.length_nil]
  omega

/-- Settles O59: the reset state is off, with no request and no refill in progress. -/
theorem afterResetOnlyTheIdleValueSounds : Obligations.AfterResetOnlyTheIdleValueSounds := by
  unfold Obligations.AfterResetOnlyTheIdleValueSounds
  exact fun c => ⟨status_resetOf c, rfl, refillTurn_of_none_enabled rfl rfl rfl, sampleTick_of_off rfl⟩

/-! ## The refill deadline (rules R282 to R284)

While a window is played with no other one ready, the refill of the other buffer has been open at least since the
hand-off. So the ticks counted of that refill are at least the samples played, all `B` of them once the block waits;
the underrun tick would be one more than rule R282 admits. `ticksOwed` is this lower bound of the count. -/

/-- The ticks since the window now playing, or the one just drained, was taken. -/
def ticksOfWindow (s : State) : Nat :=
  match s.pst with
  | .off => 0
  | .prime => 0
  | .play => s.rdIdx
  | .wait => s.cfg.b

/-- The ticks that the open refill must have been waited for: those of the window, where no other one is ready and
the run goes on. -/
def ticksOwed (s : State) : Nat := if s.pq = [] ∧ s.lastw = false then ticksOfWindow s else 0

section Deadline

variable {s t : State} {u : Turn} {n : Nat}

/-! ### What is owed, case by case -/

theorem ticksOwed_of_ready (h : s.pq ≠ []) : ticksOwed s = 0 := if_neg fun hnone => h hnone.1

theorem ticksOwed_of_lastWindow (h : s.lastw = true) : ticksOwed s = 0 :=
  if_neg fun hmore => by simp [h] at hmore

theorem ticksOwed_of_not_begun (h : s.pst = .off ∨ s.pst = .prime) : ticksOwed s = 0 := by
  rcases h with h | h <;> simp [ticksOwed, ticksOfWindow, h]

theorem ticksOwed_of_play (h : s.pst = .play) (hpq : s.pq = []) (hl : s.lastw = false) : ticksOwed s = s.rdIdx := by
  simp [ticksOwed, ticksOfWindow, h, hpq, hl]

theorem ticksOwed_of_wait (h : s.pst = .wait) (hpq : s.pq = []) (hl : s.lastw = false) : ticksOwed s = s.cfg.b := by
  simp [ticksOwed, ticksOfWindow, h, hpq, hl]

/-- Where ticks are owed a window has begun, no other one is ready and the run goes on. -/
theorem of_ticksOwed_ne_zero (h : ticksOwed s ≠ 0) : s.pst ≠ .off ∧ s.pq = [] ∧ s.lastw = false :=
  ⟨fun hoff => h (ticksOwed_of_not_begun (.inl hoff)), by_contra fun hpq => h (ticksOwed_of_ready hpq),
    eq_false_of_ne_true fun hl => h (ticksOwed_of_lastWindow hl)⟩

/-- With nothing ready and two buffers, the one not being played is requested or being filled (rules R161, R180). -/
theorem Inv.refillOpen_of_nothing_ready (h : Inv s) (hauto : s.auto = true) (hn : s.cfg.nbuf = 2) (hp : s.pst ≠ .off)
    (hpq : s.pq = []) (hl : s.lastw = false) : refillOpen s = true := by
  cases hbusy : s.fillBusy with
  | true => simp [refillOpen, hbusy]
  | false =>
    obtain ⟨b, hb⟩ : ∃ b, s.playBuf ≠ b := by
      cases s.playBuf
      · exact ⟨.b1, nofun⟩
      · exact ⟨.b0, nofun⟩
    have hrun : s.sst = .run := h.playIsRun hp
    have hplace : places s b = 1 := h.noneFree hrun hl b (by cases b <;> simp [Config.hasBuf, BufId.idx, hn])
    have hcount : s.rq.count b = 1 := by simpa [places_eq, hpq, hbusy, hb] using hplace
    have hrequest : 0 < s.rq.length := (by omega : 0 < s.rq.count b).trans_le List.count_le_length
    have hen : s.refillStartEnabled = true := refillStartEnabled_iff.mpr ⟨hrun, hbusy, hrequest, hl, .inl hauto⟩
    simp [refillOpen, hen]

/-! ### Turns that take no tick -/

/-- A turn that takes no tick: it pulses no underrun and owes no more than before, and nothing where it ends the open
refill. -/
def OwesNoMore (s t : State) : Prop :=
  t.evUnderrun = s.evUnderrun ∧ ticksOwed t ≤ ticksOwed s ∧ (refillEnds s t = true → ticksOwed t = 0)

/-- How far the playing is, and the underrun pulse: what `OwesNoMore` depends on, beside `fillBusy`. -/
def pace (s : State) : PlayState × List BufId × Bool × Nat × Nat × Bool :=
  (s.pst, s.pq, s.lastw, s.rdIdx, s.cfg.b, s.out.underrun)

/-- Where a refill in progress goes on and no last window begins, no refill ends. -/
theorem refillEnds_eq_false (hbusy : s.fillBusy = true → t.fillBusy = true)
    (hl : t.lastw = true → s.lastw = true) : refillEnds s t = false := by
  simp only [refillEnds, Bool.or_eq_false_iff, Bool.and_eq_false_imp, Bool.not_eq_false', Bool.not_eq_true']
  exact ⟨hbusy, fun hnot => eq_false_of_ne_true fun hlast => by simp [hl hlast] at hnot⟩

theorem OwesNoMore.of_pace (h : pace t = pace s) (hbusy : s.fillBusy = true → t.fillBusy = true) :
    OwesNoMore s t := by
  simp only [pace, Prod.mk.injEq] at h
  obtain ⟨hp, hpq, hl, hrd, hb, hout⟩ := h
  have howed : ticksOwed t = ticksOwed s := by simp only [ticksOwed, ticksOfWindow, hp, hpq, hl, hrd, hb]
  have hgoesOn : refillEnds s t = false := refillEnds_eq_false hbusy hl.symm.trans
  exact ⟨hout, howed.le, by simp [hgoesOn]⟩

theorem OwesNoMore.of_owes_nothing (hout : t.out.underrun = s.out.underrun) (howed : ticksOwed t = 0) :
    OwesNoMore s t :=
  ⟨hout, howed.trans_le (Nat.zero_le _), fun _ => howed⟩

/-- A command leaves the pace of the run, but for START and STOP, which leave no window begun (rules R162, R164). -/
theorem exec_owesNoMore {i : Instr} (ht : exec i s = .next t) : OwesNoMore s t := by
  cases i with
  | start =>
    simp only [exec, execStart] at ht
    split_ifs at ht <;> cases ht
    · exact .of_pace rfl id
    · exact .of_owes_nothing rfl (ticksOwed_of_not_begun (.inr rfl))
    · exact .of_pace rfl id
  | stop =>
    simp only [exec, execStop] at ht
    split at ht <;> cases ht
    · exact .of_owes_nothing rfl (ticksOwed_of_not_begun (.inl rfl))
    · exact .of_pace rfl id
  | vfreq | poll | mode =>
    simp only [exec, execVfreq, execPoll, execMode] at ht
    split_ifs at ht <;> cases ht <;> exact .of_pace rfl id
  | nop | fxset | rdstat | clrerr | reserved9 | reservedA | reservedB | reservedC | reservedD | reservedE
  | reservedF => cases ht; exact .of_pace rfl id

/-- RefillStart begins a refill, or begins the last window (rules R170, R172). -/
theorem refillStart_owesNoMore (k : BufId) (rest : List BufId) : OwesNoMore s (s.refillStart k rest) := by
  rcases cutOffOrFill_cases (State.latchInputs { s with rq := rest, pollPend := false }).countSilence k with
    ⟨-, -, heq⟩ | ⟨-, heq⟩ <;> rw [State.refillStart, heq]
  · exact .of_owes_nothing rfl (ticksOwed_of_lastWindow rfl)
  · exact .of_pace rfl fun _ => rfl

/-- RefillDone makes a window ready, or finds the run stopped (rule R178). -/
theorem Inv.refillDone_owesNoMore (h : Inv s) : OwesNoMore s s.refillDone := by
  refine .of_owes_nothing (by simp) ?_
  rcases refillDone_cases s with ⟨-, heq⟩ | ⟨hstopped, heq⟩
  · exact ticksOwed_of_ready (by simp [heq])
  · have hoff : s.pst = .off := by_contra fun hp => hstopped (h.playIsRun hp)
    exact ticksOwed_of_not_begun (.inl (by simp [hoff]))

theorem Inv.refillTurn_owesNoMore (h : Inv s) (ht : Machine.refillTurn s = .next t) : OwesNoMore s t := by
  rcases refillTurn_next ht with ⟨-, k, rest, -, rfl⟩ | ⟨-, -, hsample⟩ | ⟨-, -, -, rfl⟩ | ⟨-, -, -, rfl⟩
  · exact refillStart_owesNoMore k rest
  · obtain ⟨d, -, -, rfl⟩ := refillSample_next hsample
    exact .of_pace rfl id
  · exact h.refillDone_owesNoMore
  · exact .of_pace rfl id

/-! ### The sample tick -/

/-- Taking the ready window owes nothing yet: none of its samples has been played (rule R202). -/
theorem ticksOwed_acquire_le (s : State) : ticksOwed s.acquire ≤ ticksOwed s := by
  rcases acquire_cases s with ⟨k, rest, -, -, heq⟩ | ⟨-, -, heq⟩ | ⟨-, heq⟩ <;> rw [heq]
  simp [ticksOwed, ticksOfWindow]

theorem refillOpen_acquire (s : State) : refillOpen s.acquire = refillOpen s := by
  simp [refillOpen, State.refillStartEnabled]

/-- The emit plays one sample more of the window (rules R203, R204). -/
theorem ticksOwed_emit (v : Nat) (hp : s.pst = .play) (hpq : s.pq = []) (hl : s.lastw = false) :
    ticksOwed (s.emit v) = ticksOwed s + 1 := by
  rw [ticksOwed_of_play hp hpq hl]
  rcases emit_cases s v with ⟨hlast, heq⟩ | ⟨-, heq⟩ <;> rw [heq]
  · rw [hlast]
    exact ticksOwed_of_wait rfl hpq hl
  · exact ticksOwed_of_play hp hpq hl

/-- Sub-step 2 of SampleTick leaves the event model and the refill in progress, and begins no last window. -/
theorem tickCase_keeps_refill (ht : s.tickCase = .next t) :
    t.cfg = s.cfg ∧ t.auto = s.auto ∧ t.fillBusy = s.fillBusy ∧ (t.lastw = true → s.lastw = true) := by
  rcases tickCase_next ht with ⟨-, v, -, rfl⟩ | ⟨-, -, rfl⟩ | ⟨-, -, rfl⟩ | ⟨-, -, rfl⟩ | ⟨-, -, -, rfl⟩ |
    ⟨-, -, -, rfl⟩ | ⟨-, rfl⟩ <;> simp

theorem periodBoundary_keeps_refill (ht : periodBoundary s = .next t) :
    t.cfg = s.cfg ∧ t.auto = s.auto ∧ t.fillBusy = s.fillBusy ∧ (t.lastw = true → s.lastw = true) := by
  obtain ⟨x, hx, rfl⟩ := periodBoundary_next ht
  obtain ⟨y, hy, rfl⟩ := sampleTick_next hx
  simpa using tickCase_keeps_refill hy

/-- Sub-step 2 of SampleTick owes one tick more at most, and only where a window has begun, no other one is ready and
the run goes on. -/
theorem tickCase_ticksOwed (ht : s.tickCase = .next t) :
    ticksOwed t = 0 ∨ (s.pst ≠ .off ∧ s.pq = [] ∧ s.lastw = false ∧ ticksOwed t ≤ ticksOwed s + 1) := by
  refine or_iff_not_imp_left.mpr fun howed => ?_
  obtain ⟨hbegun, hpq, hl⟩ := of_ticksOwed_ne_zero howed
  rcases tickCase_next ht with ⟨hp, v, -, rfl⟩ | ⟨-, -, rfl⟩ | ⟨hp, -, rfl⟩ | ⟨-, -, rfl⟩ | ⟨hp, -, -, rfl⟩ |
    ⟨hp, -, -, rfl⟩ | ⟨hoff, rfl⟩
  · rw [emit_pq] at hpq
    rw [emit_lastw] at hl
    exact ⟨by simp [hp], hpq, hl, (ticksOwed_emit v hp hpq hl).le⟩
  · exact absurd rfl hbegun
  · exact absurd (ticksOwed_of_not_begun (.inr hp)) howed
  · exact absurd rfl hbegun
  · exact ⟨by simp [hp], hpq, hl, Nat.le_succ _⟩
  · exact ⟨by simp [hp], hpq, hl, Nat.le_succ _⟩
  · exact absurd hoff hbegun

/-- Only the tick that finds the block waiting in a run that goes on pulses an underrun (rule R207). -/
theorem of_tickCase_underrun (ht : s.tickCase = .next t) (hover : s.out.underrun = false)
    (hunder : t.out.underrun = true) : s.pst = .wait ∧ s.lastw = false := by
  have hchanged : t.out.underrun ≠ s.out.underrun := by simp [hover, hunder]
  rcases tickCase_next ht with ⟨-, v, -, rfl⟩ | ⟨-, -, rfl⟩ | ⟨-, -, rfl⟩ | ⟨-, -, rfl⟩ | ⟨hp, hl, -, rfl⟩ |
    ⟨-, -, -, rfl⟩ | ⟨-, rfl⟩
  case inr.inr.inr.inr.inl => exact ⟨hp, hl⟩
  case inl => rcases emit_cases s v with ⟨-, heq⟩ | ⟨-, heq⟩ <;> rw [heq] at hchanged <;> exact absurd rfl hchanged
  all_goals exact absurd rfl hchanged

/-! ### The invariant of a run within the deadline -/

/-- A state of a run in the event model with two buffers, in which at least the owed ticks have been counted: `n` of
them (rules R282, R284). -/
structure OnTime (n : Nat) (s : State) : Prop where
  inv : Inv s
  eventModel : s.auto = true
  twoBuffers : s.cfg.nbuf = 2
  owedCounted : ticksOwed s ≤ n

theorem OnTime.presented (h : OnTime n s) (u : Turn) : OnTime n (present u s).beginStep :=
  { h with inv := h.inv.presented u }

/-- A turn that takes no tick keeps the count above what is owed. -/
theorem OwesNoMore.ticksOwed_le (h : OwesNoMore s t) (howed : ticksOwed s ≤ n) : ticksOwed t ≤ ticksWaited n s t := by
  obtain ⟨-, hle, hends⟩ := h
  unfold ticksWaited
  split
  next hend => exact (hends hend).le
  · split <;> omega

/-- The tick is counted where a refill is open, and ends none. -/
theorem periodBoundary_ticksWaited (n : Nat) (ht : periodBoundary s = .next t) :
    ticksWaited n s t = if refillOpen s then n + 1 else n := by
  obtain ⟨-, -, hbusy, hl⟩ := periodBoundary_keeps_refill ht
  obtain ⟨-, -, -, -, -, hstrobe⟩ := periodBoundary_tickCase ht
  have hgoesOn : refillEnds s t = false := refillEnds_eq_false hbusy.trans hl
  simp [ticksWaited, hgoesOn, hstrobe]

/-- The sample tick: where ticks are owed after it a refill was open, so it is counted, and an underrun tick comes
after the `B` ticks of a whole window. -/
theorem OnTime.periodBoundary (h : OnTime n s) (hover : s.evUnderrun = false)
    (ht : Machine.periodBoundary s = .next t) :
    ticksOwed t ≤ ticksWaited n s t ∧ (t.evUnderrun = true → s.cfg.b < ticksWaited n s t) := by
  have hopen : s.acquire.pst ≠ .off → s.acquire.pq = [] → s.acquire.lastw = false → refillOpen s = true :=
    fun hp hpq hl => refillOpen_acquire s ▸ h.inv.acquire.refillOpen_of_nothing_ready
      (by simp [h.eventModel]) (by simp [h.twoBuffers]) hp hpq hl
  have hcounted : ticksOwed s.acquire ≤ n := (ticksOwed_acquire_le s).trans h.owedCounted
  rw [periodBoundary_ticksWaited n ht]
  obtain ⟨x, hx, rfl⟩ := periodBoundary_next ht
  obtain ⟨y, hy, rfl⟩ := sampleTick_next hx
  change ticksOwed y ≤ _ ∧ (y.out.underrun = true → _)
  refine ⟨?_, fun hunder => ?_⟩
  · rcases tickCase_ticksOwed hy with hnone | ⟨hp, hpq, hl, hle⟩
    · exact hnone.trans_le (Nat.zero_le _)
    · rw [if_pos (hopen hp hpq hl)]
      omega
  · obtain ⟨hp, hl⟩ := of_tickCase_underrun hy (by simpa [State.evUnderrun] using hover) hunder
    have hpq := pq_acquire (.inr hp)
    have hwindow : ticksOwed s.acquire = s.cfg.b := by rw [ticksOwed_of_wait hp hpq hl, acquire_cfg]
    rw [if_pos (hopen (by simp [hp]) hpq hl)]
    omega

/-! ### What holds throughout such a run -/

theorem modeAuto_of_ne_zero {a : BitVec 1} (h : a ≠ 0) : modeAuto a = true := by
  revert a
  decide

/-- A command keeps the configuration, and all but MODE 0 keep the event model (rules R13, R168). -/
theorem exec_keeps_eventModel {i : Instr} (hi : i ≠ .mode 0) (hauto : s.auto = true) (ht : exec i s = .next t) :
    t.cfg = s.cfg ∧ t.auto = true := by
  cases i with
  | mode a =>
    have hone : modeAuto a = true := modeAuto_of_ne_zero fun h => hi (congrArg Instr.mode h)
    simp only [exec, execMode] at ht
    split_ifs at ht <;> cases ht
    · exact ⟨rfl, hauto⟩
    · exact ⟨rfl, hone⟩
  | vfreq | start | stop | poll =>
    simp only [exec, execVfreq, execStart, execStop, execPoll] at ht
    split_ifs at ht <;> cases ht <;> exact ⟨rfl, hauto⟩
  | nop | fxset | rdstat | clrerr | reserved9 | reservedA | reservedB | reservedC | reservedD | reservedE
  | reservedF => cases ht; exact ⟨rfl, hauto⟩

theorem refillTurn_keeps_eventModel (ht : refillTurn s = .next t) : t.cfg = s.cfg ∧ t.auto = s.auto := by
  rcases refillTurn_next ht with ⟨-, k, rest, -, rfl⟩ | ⟨-, -, hsample⟩ | ⟨-, -, -, rfl⟩ | ⟨-, -, -, rfl⟩
  · simp [State.refillStart]
  · obtain ⟨d, -, -, rfl⟩ := refillSample_next hsample
    simp
  · simp
  · simp

/-- Of the turns of rule R284 no command is MODE 0 and none is a reset edge. -/
theorem of_keepsPlaying (hu : keepsPlaying u = true) :
    u ≠ .rstEdge true ∧ ∀ w, u = .command w → decode w ≠ .mode 0 := by
  cases u with
  | command w => exact ⟨nofun, fun v hv => by cases hv; simp_all [keepsPlaying]⟩
  | refill | sampleTick | pwmCycle => exact ⟨nofun, nofun⟩
  | rstEdge level => cases hu

theorem takeTurn_keeps_eventModel (hu : keepsPlaying u = true) (hauto : s.auto = true)
    (ht : takeTurn u s = .next t) : t.cfg = s.cfg ∧ t.auto = true := by
  obtain ⟨hreset, hmode⟩ := of_keepsPlaying hu
  rcases takeTurn_agent ht hreset with ⟨-, level, m, rfl⟩ | ⟨w, hw, hc⟩ | ⟨-, hr⟩ | ⟨-, hb⟩
  · exact ⟨rfl, hauto⟩
  · exact exec_keeps_eventModel (hmode w hw) hauto hc
  · exact (refillTurn_keeps_eventModel hr).imp_right (·.trans hauto)
  · obtain ⟨hcfg, hsame, -⟩ := periodBoundary_keeps_refill hb
    exact ⟨hcfg, hsame.trans hauto⟩

/-- Whatever the turn but a reset edge, the ticks owed are counted, and an underrun tick comes after more than `B` of
them. -/
theorem OnTime.takeTurn_counts (h : OnTime n s) (hover : s.evUnderrun = false) (hu : u ≠ .rstEdge true)
    (ht : Machine.takeTurn u s = .next t) :
    ticksOwed t ≤ ticksWaited n s t ∧ (t.evUnderrun = true → s.cfg.b < ticksWaited n s t) := by
  have hquiet : OwesNoMore s t →
      ticksOwed t ≤ ticksWaited n s t ∧ (t.evUnderrun = true → s.cfg.b < ticksWaited n s t) := fun hq =>
    ⟨hq.ticksOwed_le h.owedCounted, fun hunder => by simp [hq.1, hover] at hunder⟩
  rcases takeTurn_agent ht hu with ⟨-, level, m, rfl⟩ | ⟨w, -, hc⟩ | ⟨-, hr⟩ | ⟨-, hb⟩
  · exact hquiet (.of_pace rfl id)
  · exact hquiet (exec_owesNoMore hc)
  · exact hquiet (h.inv.refillTurn_owesNoMore hr)
  · exact h.periodBoundary hover hb

theorem OnTime.takeTurn (h : OnTime n s) (hover : s.evUnderrun = false) (hu : keepsPlaying u = true)
    (ht : Machine.takeTurn u s = .next t) : OnTime (ticksWaited n s t) t := by
  obtain ⟨hcfg, hauto⟩ := takeTurn_keeps_eventModel hu h.eventModel ht
  obtain ⟨howed, -⟩ := h.takeTurn_counts hover (of_keepsPlaying hu).1 ht
  exact ⟨h.inv.takeTurn ht, hauto, hcfg ▸ h.twoBuffers, howed⟩

/-- Within a deadline of `B` ticks no run underruns, by induction on its turns. -/
theorem OnTime.underrunFree {bound : Nat} (ts : List Turn) (h : OnTime n s) (hbound : bound ≤ s.cfg.b)
    (hts : ∀ u ∈ ts, keepsPlaying u = true) (htimely : timely bound n ts s) : underrunFree ts s := by
  induction ts generalizing n s with
  | nil => trivial
  | cons u ts ih =>
    obtain ⟨hu, hts⟩ := List.forall_mem_cons.mp hts
    unfold Safety.underrunFree
    unfold timely at htimely
    cases hstep : step (present u s) with
    | next t =>
      rw [hstep] at htimely
      obtain ⟨hcount, hrest⟩ := htimely
      have hbegun := h.presented u
      have hkeeps : OnTime (ticksWaited n s t) t := hbegun.takeTurn rfl hu hstep
      have hcfg : t.cfg = s.cfg := (takeTurn_keeps_eventModel hu hbegun.eventModel hstep).1
      have hunder : t.evUnderrun = true → s.cfg.b < ticksWaited n s t :=
        (hbegun.takeTurn_counts rfl (of_keepsPlaying hu).1 hstep).2
      refine ⟨eq_false_of_ne_true fun htick => ?_, ih hkeeps (hcfg ▸ hbound) hts hrest⟩
      have hlate := hunder htick
      omega
    | fault r => trivial
    | refused r => trivial

/-- An idle block owes no tick. -/
theorem Inv.onTime_of_idle (h : Inv s) (hidle : s.sst = .idle) (hauto : s.auto = true) (hn : s.cfg.nbuf = 2) :
    OnTime 0 s := by
  obtain ⟨hoff, -⟩ := h.idleIsQuiet hidle
  exact ⟨h, hauto, hn, (ticksOwed_of_not_begun (.inl hoff)).le⟩

end Deadline

/-- Settles O49: an idle block owes no tick, and `OnTime` holds throughout the run. -/
theorem noUnderrunUnderTheDeadline : Obligations.NoUnderrunUnderTheDeadline := by
  unfold Obligations.NoUnderrunUnderTheDeadline
  intro ts s hinv hidle hauto _ hn hmax hts htimely
  exact (hinv.onTime_of_idle hidle hauto hn).underrunFree ts hmax hts htimely

end Sys2Proof.Safety
